-- ==== Sys2Proof/Word.lean ====
section
/-! DEFINITION. The word types of WDIO (spec/00_scope.md R10, R12). Nothing here chooses a behaviour. -/

namespace Sys2Proof

/-- A host-visible register, a timer or a counter: 32 bits (R10, R22). -/
abbrev Word := BitVec 32

/-- One byte, as a platform adapter presents a register (R66). -/
abbrev Byte := BitVec 8

/-- The vector FLAGS of the STATUS event flags, bits 10:0 (R29, R220). -/
abbrev FlagVec := BitVec 11

/-- The frame shift register, `BUF_BITS` = 64 bits (R10, R35). -/
abbrev FrameReg := BitVec 64

/-- The saturating frame bit counter, `CNT_BITS` = 8 bits (R10, R35). -/
abbrev FrameCount := BitVec 8

/-- A 6-bit register word index (R10, R22). -/
abbrev RegIndex := BitVec 6

/-- The 39-bit transaction word TXN (R84). -/
abbrev TxnWord := BitVec 39

end Sys2Proof
end

