-- ==== Sys2Proof/Syntax.lean ====
section
/-! DEFINITION. The encoded inputs of WDIO (R2, R80): the instructions of spec/opcode_table.json, one
constructor per row; what the bus may present in a cycle; and the inputs of one cycle (R8, R15, R20). -/

namespace Sys2Proof

/-- The rows of spec/opcode_table.json. A read carries no operand: its DATA field is ignored (R84).
A write carries its 32 bits of DATA, ignored where the row says so. -/
inductive Instr where
  /-- A closed 26-bit frame, f[0] most significant (R89, R149). -/
  | decW26 (f : BitVec 26)
  /-- A closed 32-bit frame (R93, R151). -/
  | decW32 (f : BitVec 32)
  /-- A closed 34-bit frame (R91, R150). -/
  | decW34 (f : BitVec 34)
  /-- A closed 64-bit frame (R94, R152). -/
  | decW64 (f : BitVec 64)
  /-- A closed frame of an unsupported length: its saturated bit count and its last 64 bits (R95, R153). -/
  | frameUnsupported (len : FrameCount) (bits : FrameReg)
  /-- Command word 0x0 (R87, R182). -/
  | nop
  /-- Command word 0x1 (R87, R183). -/
  | lock
  /-- Command word 0x2 (R87, R184). -/
  | unlock
  /-- Any other command word (R88, R185). -/
  | cmdRsvd (w : Word)
  /-- RD_ID (R221). -/
  | rdId
  /-- WR_ID (R221). -/
  | wrId (v : Word)
  /-- RD_CTRL (R222). -/
  | rdCtrl
  /-- WR_CTRL (R223). -/
  | wrCtrl (v : Word)
  /-- RD_STATUS (R225). -/
  | rdStatus
  /-- WR_STATUS (R224). -/
  | wrStatus (v : Word)
  /-- RD_IRQ_EN (R226). -/
  | rdIrqEn
  /-- WR_IRQ_EN (R227). -/
  | wrIrqEn (v : Word)
  /-- RD_CMD (R228). -/
  | rdCmd
  /-- WR_CMD (R229). -/
  | wrCmd (v : Word)
  /-- RD_SILENCE (R230). -/
  | rdSilence
  /-- WR_SILENCE (R230). -/
  | wrSilence (v : Word)
  /-- RD_PULSE (R231). -/
  | rdPulse
  /-- WR_PULSE (R231). -/
  | wrPulse (v : Word)
  /-- RD_RELOCK (R232). -/
  | rdRelock
  /-- WR_RELOCK (R232). -/
  | wrRelock (v : Word)
  /-- RD_DEBOUNCE0 (R233). -/
  | rdDebounce0
  /-- WR_DEBOUNCE0 (R233). -/
  | wrDebounce0 (v : Word)
  /-- RD_DEBOUNCE1 (R233). -/
  | rdDebounce1
  /-- WR_DEBOUNCE1 (R233). -/
  | wrDebounce1 (v : Word)
  /-- RD_DEBOUNCE2 (R233). -/
  | rdDebounce2
  /-- WR_DEBOUNCE2 (R233). -/
  | wrDebounce2 (v : Word)
  /-- RD_CARD_LO (R234). -/
  | rdCardLo
  /-- WR_CARD_LO (R234). -/
  | wrCardLo (v : Word)
  /-- RD_CARD_HI (R234). -/
  | rdCardHi
  /-- WR_CARD_HI (R234). -/
  | wrCardHi (v : Word)
  /-- RD_CARD_INFO (R235). -/
  | rdCardInfo
  /-- WR_CARD_INFO (R235). -/
  | wrCardInfo (v : Word)
  /-- RD_CARD_NUM (R236). -/
  | rdCardNum
  /-- WR_CARD_NUM (R236). -/
  | wrCardNum (v : Word)
  /-- RD_ERR_LO (R237). -/
  | rdErrLo
  /-- WR_ERR_LO (R237). -/
  | wrErrLo (v : Word)
  /-- RD_ERR_HI (R237). -/
  | rdErrHi
  /-- WR_ERR_HI (R237). -/
  | wrErrHi (v : Word)
  /-- RD_ERR_LEN (R238). -/
  | rdErrLen
  /-- WR_ERR_LEN (R238). -/
  | wrErrLen (v : Word)
  /-- RD_RELOCK_REM (R239). -/
  | rdRelockRem
  /-- WR_RELOCK_REM (R239). -/
  | wrRelockRem (v : Word)
  /-- RD_RSVD_11 (R240). -/
  | rdRsvd11
  /-- WR_RSVD_11 (R240). -/
  | wrRsvd11 (v : Word)
  /-- RD_RSVD_20 (R240). -/
  | rdRsvd20
  /-- WR_RSVD_20 (R240). -/
  | wrRsvd20 (v : Word)
  /-- RD_RSVD_21 (R240). -/
  | rdRsvd21
  /-- WR_RSVD_21 (R240). -/
  | wrRsvd21 (v : Word)
  /-- RD_RSVD_22 (R240). -/
  | rdRsvd22
  /-- WR_RSVD_22 (R240). -/
  | wrRsvd22 (v : Word)
  /-- RD_RSVD_23 (R240). -/
  | rdRsvd23
  /-- WR_RSVD_23 (R240). -/
  | wrRsvd23 (v : Word)
  /-- RD_RSVD_24 (R240). -/
  | rdRsvd24
  /-- WR_RSVD_24 (R240). -/
  | wrRsvd24 (v : Word)
  /-- RD_RSVD_25 (R240). -/
  | rdRsvd25
  /-- WR_RSVD_25 (R240). -/
  | wrRsvd25 (v : Word)
  /-- RD_RSVD_26 (R240). -/
  | rdRsvd26
  /-- WR_RSVD_26 (R240). -/
  | wrRsvd26 (v : Word)
  /-- RD_RSVD_27 (R240). -/
  | rdRsvd27
  /-- WR_RSVD_27 (R240). -/
  | wrRsvd27 (v : Word)
  /-- RD_RSVD_28 (R240). -/
  | rdRsvd28
  /-- WR_RSVD_28 (R240). -/
  | wrRsvd28 (v : Word)
  /-- RD_RSVD_29 (R240). -/
  | rdRsvd29
  /-- WR_RSVD_29 (R240). -/
  | wrRsvd29 (v : Word)
  /-- RD_RSVD_30 (R240). -/
  | rdRsvd30
  /-- WR_RSVD_30 (R240). -/
  | wrRsvd30 (v : Word)
  /-- RD_RSVD_31 (R240). -/
  | rdRsvd31
  /-- WR_RSVD_31 (R240). -/
  | wrRsvd31 (v : Word)
  /-- RD_RSVD_32 (R240). -/
  | rdRsvd32
  /-- WR_RSVD_32 (R240). -/
  | wrRsvd32 (v : Word)
  /-- RD_RSVD_33 (R240). -/
  | rdRsvd33
  /-- WR_RSVD_33 (R240). -/
  | wrRsvd33 (v : Word)
  /-- RD_RSVD_34 (R240). -/
  | rdRsvd34
  /-- WR_RSVD_34 (R240). -/
  | wrRsvd34 (v : Word)
  /-- RD_RSVD_35 (R240). -/
  | rdRsvd35
  /-- WR_RSVD_35 (R240). -/
  | wrRsvd35 (v : Word)
  /-- RD_RSVD_36 (R240). -/
  | rdRsvd36
  /-- WR_RSVD_36 (R240). -/
  | wrRsvd36 (v : Word)
  /-- RD_RSVD_37 (R240). -/
  | rdRsvd37
  /-- WR_RSVD_37 (R240). -/
  | wrRsvd37 (v : Word)
  /-- RD_RSVD_38 (R240). -/
  | rdRsvd38
  /-- WR_RSVD_38 (R240). -/
  | wrRsvd38 (v : Word)
  /-- RD_RSVD_39 (R240). -/
  | rdRsvd39
  /-- WR_RSVD_39 (R240). -/
  | wrRsvd39 (v : Word)
  /-- RD_RSVD_40 (R240). -/
  | rdRsvd40
  /-- WR_RSVD_40 (R240). -/
  | wrRsvd40 (v : Word)
  /-- RD_RSVD_41 (R240). -/
  | rdRsvd41
  /-- WR_RSVD_41 (R240). -/
  | wrRsvd41 (v : Word)
  /-- RD_RSVD_42 (R240). -/
  | rdRsvd42
  /-- WR_RSVD_42 (R240). -/
  | wrRsvd42 (v : Word)
  /-- RD_RSVD_43 (R240). -/
  | rdRsvd43
  /-- WR_RSVD_43 (R240). -/
  | wrRsvd43 (v : Word)
  /-- RD_RSVD_44 (R240). -/
  | rdRsvd44
  /-- WR_RSVD_44 (R240). -/
  | wrRsvd44 (v : Word)
  /-- RD_RSVD_45 (R240). -/
  | rdRsvd45
  /-- WR_RSVD_45 (R240). -/
  | wrRsvd45 (v : Word)
  /-- RD_RSVD_46 (R240). -/
  | rdRsvd46
  /-- WR_RSVD_46 (R240). -/
  | wrRsvd46 (v : Word)
  /-- RD_RSVD_47 (R240). -/
  | rdRsvd47
  /-- WR_RSVD_47 (R240). -/
  | wrRsvd47 (v : Word)
  /-- RD_RSVD_48 (R240). -/
  | rdRsvd48
  /-- WR_RSVD_48 (R240). -/
  | wrRsvd48 (v : Word)
  /-- RD_RSVD_49 (R240). -/
  | rdRsvd49
  /-- WR_RSVD_49 (R240). -/
  | wrRsvd49 (v : Word)
  /-- RD_RSVD_50 (R240). -/
  | rdRsvd50
  /-- WR_RSVD_50 (R240). -/
  | wrRsvd50 (v : Word)
  /-- RD_RSVD_51 (R240). -/
  | rdRsvd51
  /-- WR_RSVD_51 (R240). -/
  | wrRsvd51 (v : Word)
  /-- RD_RSVD_52 (R240). -/
  | rdRsvd52
  /-- WR_RSVD_52 (R240). -/
  | wrRsvd52 (v : Word)
  /-- RD_RSVD_53 (R240). -/
  | rdRsvd53
  /-- WR_RSVD_53 (R240). -/
  | wrRsvd53 (v : Word)
  /-- RD_RSVD_54 (R240). -/
  | rdRsvd54
  /-- WR_RSVD_54 (R240). -/
  | wrRsvd54 (v : Word)
  /-- RD_RSVD_55 (R240). -/
  | rdRsvd55
  /-- WR_RSVD_55 (R240). -/
  | wrRsvd55 (v : Word)
  /-- RD_RSVD_56 (R240). -/
  | rdRsvd56
  /-- WR_RSVD_56 (R240). -/
  | wrRsvd56 (v : Word)
  /-- RD_RSVD_57 (R240). -/
  | rdRsvd57
  /-- WR_RSVD_57 (R240). -/
  | wrRsvd57 (v : Word)
  /-- RD_RSVD_58 (R240). -/
  | rdRsvd58
  /-- WR_RSVD_58 (R240). -/
  | wrRsvd58 (v : Word)
  /-- RD_RSVD_59 (R240). -/
  | rdRsvd59
  /-- WR_RSVD_59 (R240). -/
  | wrRsvd59 (v : Word)
  /-- RD_RSVD_60 (R240). -/
  | rdRsvd60
  /-- WR_RSVD_60 (R240). -/
  | wrRsvd60 (v : Word)
  /-- RD_RSVD_61 (R240). -/
  | rdRsvd61
  /-- WR_RSVD_61 (R240). -/
  | wrRsvd61 (v : Word)
  /-- RD_RSVD_62 (R240). -/
  | rdRsvd62
  /-- WR_RSVD_62 (R240). -/
  | wrRsvd62 (v : Word)
  /-- RD_RSVD_63 (R240). -/
  | rdRsvd63
  /-- WR_RSVD_63 (R240). -/
  | wrRsvd63 (v : Word)
  /-- WD_TICK (R147). -/
  | wdTick
  /-- CLOSE (R148). -/
  | close
  /-- WD_STOP (R159). -/
  | wdStop
  /-- WD_START (R160). -/
  | wdStart
  /-- SENS_TICK0 (R121). -/
  | sensTick0
  /-- SENS_STOP0 (R117). -/
  | sensStop0
  /-- SENS_START0 (R118). -/
  | sensStart0
  /-- SENS_TICK1 (R121). -/
  | sensTick1
  /-- SENS_STOP1 (R117). -/
  | sensStop1
  /-- SENS_START1 (R118). -/
  | sensStart1
  /-- SENS_TICK2 (R121). -/
  | sensTick2
  /-- SENS_STOP2 (R117). -/
  | sensStop2
  /-- SENS_START2 (R118). -/
  | sensStart2
  /-- ACT_CYCLE (R201). -/
  | actCycle
  /-- RELOCK_FIRE (R192). -/
  | relockFire
deriving DecidableEq, Repr

/-- The sensor channels k = 0, 1, 2 (R10, R36). -/
inductive Chan where
  /-- channel 0, the door contact -/
  | door
  /-- channel 1, the proximity sensor -/
  | proximity
  /-- channel 2, the exit button -/
  | exitButton
deriving DecidableEq, Repr

/-- The number k of a channel (R10). -/
def Chan.num : Chan → Nat
  | .door => 0
  | .proximity => 1
  | .exitButton => 2

/-- What a host puts on the register port. `txn` is the port itself (R61, R84). `load` and `store` are
accesses through a platform adapter that maps the block at byte offsets 0x00 to 0xFF (R64 to R66): a
`store`'s bytes stand in the order of rising byte offsets. -/
inductive BusReq where
  | txn (w : TxnWord)
  | load (offset : BitVec 8) (size : Nat)
  | store (offset : BitVec 8) (bytes : List Byte)
deriving DecidableEq, Repr

/-- An encoded input, told apart by where it arrives (R80): on the bus, or as a closed frame on the
data lines, its bits in the order received (R13). -/
inductive Code where
  | bus (r : BusReq)
  | frame (bits : List Bool)
deriving DecidableEq, Repr

/-- The inputs of one cycle (R8, R15, R20). Levels are `true` for 1. `bus` holds the requests of the
cycle: none, one, or more than the port can take (R61). -/
structure Inputs where
  rst : Bool
  tick : Bool
  d0 : Bool
  d1 : Bool
  sens0 : Bool
  sens1 : Bool
  sens2 : Bool
  fault : Bool
  bus : List BusReq
deriving DecidableEq, Repr, Inhabited

/-- `in.sens[k]` (R15). -/
def Inputs.sens (p : Inputs) : Chan → Bool
  | .door => p.sens0
  | .proximity => p.sens1
  | .exitButton => p.sens2

/-- The idle levels R16 gives a cycle for which nothing else is said: a tick with both data lines at
1, every sensor at 0, no driver fault and no transaction. -/
def Inputs.idle : Inputs :=
  { rst := false, tick := true, d0 := true, d1 := true, sens0 := false, sens1 := false,
    sens2 := false, fault := false, bus := [] }

end Sys2Proof
end

