-- ==== Sys2Proof/Config.lean ====
section
/-! DEFINITION. The implementation parameters of R10 and the values the spec leaves open. -/

namespace Sys2Proof.Config

/-- The constant of the ID register (R3, R34). -/
def idValue : Word := 0x57440007#32

/-- The writable mask of IRQ_EN and the mask of the defined event flags (R24, R29, R220). -/
def flagMask : Word := 0x0000077F#32

/-- The supported frame lengths (R10, R82). -/
def supportedLengths : List FrameCount := [26#8, 32#8, 34#8, 64#8]

/-- Reset value of SILENCE, 40 000 ticks (R10, R25). -/
def silenceReset : Word := 40000#32

/-- Reset value of PULSE, 50 000 ticks (R10, R26). -/
def pulseReset : Word := 50000#32

/-- Reset value of RELOCK, 5 000 000 ticks (R10, R27). -/
def relockReset : Word := 5000000#32

/-- Reset value of CTRL: every unit stopped, strike mode (R22, R23). -/
def ctrlReset : Word := 0x00000002#32

/-- OPEN `F_CLK`, the clock frequency (R10); no rule reads it (log 5). -/
opaque fClk : Nat

/-- OPEN `F_TICK`, the tick rate (R10); no rule reads it (log 5). -/
opaque fTick : Nat

/-- OPEN `RELAY_POS`, the physical position of the relay contacts, of the environment and not of the
block (R10, R42); no rule reads it (log 5). -/
opaque relayPos : Bool

/-- The inputs the environment and the host present in cycle n when the state holds no stimulus for
it: a free value, since no rule constrains the inputs of a cycle (R7, R8; log 3). -/
opaque environment : Nat → Inputs

end Sys2Proof.Config
end

