-- ==== Sys2Proof/WellFormed.lean ====
section
/-! DEFINITION. Well-formed instructions: the terms that stand for a row of spec/opcode_table.json. -/

namespace Sys2Proof

/-- A frame count and the frame's last 64 bits agree: a frame of fewer than 64 bits has no bit at or
above its length (R83, R143). -/
def frameFits (len : FrameCount) (bits : FrameReg) : Bool :=
  decide (64 ≤ len.toNat) || bits >>> len.toNat == 0#64

/-- The checks of a term: a reserved command word is none of the three commands (R88); an unsupported
frame has a length of at least 1 outside the supported ones (R95) that fits its bits (R83). Every other
term stands for a row whatever its operand. -/
def Instr.wf : Instr → Bool
  | .cmdRsvd w => w != 0#32 && w != 1#32 && w != 2#32
  | .frameUnsupported len bits =>
      len != 0#8 && !Config.supportedLengths.contains len && frameFits len bits
  | .decW26 _ | .decW32 _ | .decW34 _ | .decW64 _ | .nop | .lock | .unlock
    | .rdId | .rdCtrl | .rdStatus | .rdIrqEn | .rdCmd | .rdSilence | .rdPulse | .rdRelock
    | .rdDebounce0 | .rdDebounce1 | .rdDebounce2 | .rdRsvd11 | .rdCardLo | .rdCardHi | .rdCardInfo
    | .rdCardNum | .rdErrLo | .rdErrHi | .rdErrLen | .rdRelockRem | .rdRsvd20 | .rdRsvd21
    | .rdRsvd22 | .rdRsvd23 | .rdRsvd24 | .rdRsvd25 | .rdRsvd26 | .rdRsvd27 | .rdRsvd28 | .rdRsvd29
    | .rdRsvd30 | .rdRsvd31 | .rdRsvd32 | .rdRsvd33 | .rdRsvd34 | .rdRsvd35 | .rdRsvd36 | .rdRsvd37
    | .rdRsvd38 | .rdRsvd39 | .rdRsvd40 | .rdRsvd41 | .rdRsvd42 | .rdRsvd43 | .rdRsvd44 | .rdRsvd45
    | .rdRsvd46 | .rdRsvd47 | .rdRsvd48 | .rdRsvd49 | .rdRsvd50 | .rdRsvd51 | .rdRsvd52 | .rdRsvd53
    | .rdRsvd54 | .rdRsvd55 | .rdRsvd56 | .rdRsvd57 | .rdRsvd58 | .rdRsvd59 | .rdRsvd60 | .rdRsvd61
    | .rdRsvd62 | .rdRsvd63 | .wrId _ | .wrCtrl _ | .wrStatus _ | .wrIrqEn _ | .wrCmd _
    | .wrSilence _ | .wrPulse _ | .wrRelock _ | .wrDebounce0 _ | .wrDebounce1 _ | .wrDebounce2 _
    | .wrRsvd11 _ | .wrCardLo _ | .wrCardHi _ | .wrCardInfo _ | .wrCardNum _ | .wrErrLo _
    | .wrErrHi _ | .wrErrLen _ | .wrRelockRem _ | .wrRsvd20 _ | .wrRsvd21 _ | .wrRsvd22 _
    | .wrRsvd23 _ | .wrRsvd24 _ | .wrRsvd25 _ | .wrRsvd26 _ | .wrRsvd27 _ | .wrRsvd28 _
    | .wrRsvd29 _ | .wrRsvd30 _ | .wrRsvd31 _ | .wrRsvd32 _ | .wrRsvd33 _ | .wrRsvd34 _
    | .wrRsvd35 _ | .wrRsvd36 _ | .wrRsvd37 _ | .wrRsvd38 _ | .wrRsvd39 _ | .wrRsvd40 _
    | .wrRsvd41 _ | .wrRsvd42 _ | .wrRsvd43 _ | .wrRsvd44 _ | .wrRsvd45 _ | .wrRsvd46 _
    | .wrRsvd47 _ | .wrRsvd48 _ | .wrRsvd49 _ | .wrRsvd50 _ | .wrRsvd51 _ | .wrRsvd52 _
    | .wrRsvd53 _ | .wrRsvd54 _ | .wrRsvd55 _ | .wrRsvd56 _ | .wrRsvd57 _ | .wrRsvd58 _
    | .wrRsvd59 _ | .wrRsvd60 _ | .wrRsvd61 _ | .wrRsvd62 _ | .wrRsvd63 _
    | .wdTick | .close | .wdStop | .wdStart | .sensTick0 | .sensStop0 | .sensStart0 | .sensTick1
    | .sensStop1 | .sensStart1 | .sensTick2 | .sensStop2 | .sensStart2 | .actCycle | .relockFire => true

/-- The internal operations: rows with no encoding, run by the block itself (R80, R242). -/
def Instr.internal : Instr → Bool
  | .wdTick | .close | .wdStop | .wdStart | .sensTick0 | .sensStop0 | .sensStart0 | .sensTick1
    | .sensStop1 | .sensStart1 | .sensTick2 | .sensStop2 | .sensStart2 | .actCycle | .relockFire => true
  | .cmdRsvd _ | .frameUnsupported _ _ | .decW26 _ | .decW32 _ | .decW34 _ | .decW64 _
    | .nop | .lock | .unlock
    | .rdId | .rdCtrl | .rdStatus | .rdIrqEn | .rdCmd | .rdSilence | .rdPulse | .rdRelock
    | .rdDebounce0 | .rdDebounce1 | .rdDebounce2 | .rdRsvd11 | .rdCardLo | .rdCardHi | .rdCardInfo
    | .rdCardNum | .rdErrLo | .rdErrHi | .rdErrLen | .rdRelockRem | .rdRsvd20 | .rdRsvd21
    | .rdRsvd22 | .rdRsvd23 | .rdRsvd24 | .rdRsvd25 | .rdRsvd26 | .rdRsvd27 | .rdRsvd28 | .rdRsvd29
    | .rdRsvd30 | .rdRsvd31 | .rdRsvd32 | .rdRsvd33 | .rdRsvd34 | .rdRsvd35 | .rdRsvd36 | .rdRsvd37
    | .rdRsvd38 | .rdRsvd39 | .rdRsvd40 | .rdRsvd41 | .rdRsvd42 | .rdRsvd43 | .rdRsvd44 | .rdRsvd45
    | .rdRsvd46 | .rdRsvd47 | .rdRsvd48 | .rdRsvd49 | .rdRsvd50 | .rdRsvd51 | .rdRsvd52 | .rdRsvd53
    | .rdRsvd54 | .rdRsvd55 | .rdRsvd56 | .rdRsvd57 | .rdRsvd58 | .rdRsvd59 | .rdRsvd60 | .rdRsvd61
    | .rdRsvd62 | .rdRsvd63 | .wrId _ | .wrCtrl _ | .wrStatus _ | .wrIrqEn _ | .wrCmd _
    | .wrSilence _ | .wrPulse _ | .wrRelock _ | .wrDebounce0 _ | .wrDebounce1 _ | .wrDebounce2 _
    | .wrRsvd11 _ | .wrCardLo _ | .wrCardHi _ | .wrCardInfo _ | .wrCardNum _ | .wrErrLo _
    | .wrErrHi _ | .wrErrLen _ | .wrRelockRem _ | .wrRsvd20 _ | .wrRsvd21 _ | .wrRsvd22 _
    | .wrRsvd23 _ | .wrRsvd24 _ | .wrRsvd25 _ | .wrRsvd26 _ | .wrRsvd27 _ | .wrRsvd28 _
    | .wrRsvd29 _ | .wrRsvd30 _ | .wrRsvd31 _ | .wrRsvd32 _ | .wrRsvd33 _ | .wrRsvd34 _
    | .wrRsvd35 _ | .wrRsvd36 _ | .wrRsvd37 _ | .wrRsvd38 _ | .wrRsvd39 _ | .wrRsvd40 _
    | .wrRsvd41 _ | .wrRsvd42 _ | .wrRsvd43 _ | .wrRsvd44 _ | .wrRsvd45 _ | .wrRsvd46 _
    | .wrRsvd47 _ | .wrRsvd48 _ | .wrRsvd49 _ | .wrRsvd50 _ | .wrRsvd51 _ | .wrRsvd52 _
    | .wrRsvd53 _ | .wrRsvd54 _ | .wrRsvd55 _ | .wrRsvd56 _ | .wrRsvd57 _ | .wrRsvd58 _
    | .wrRsvd59 _ | .wrRsvd60 _ | .wrRsvd61 _ | .wrRsvd62 _ | .wrRsvd63 _ => false

end Sys2Proof
end

