-- ==== Sys2Proof/Decode.lean ====
section
/-! DEFINITION. Decoding of frames, transaction words and command words (R80 to R98), and the encoder. -/

namespace Sys2Proof

/-- Why a model refuses an access presented through a platform adapter. -/
inductive PortReject where
  /-- An access of other than 32 bits (R64). -/
  | accessWidth
  /-- An access at a byte offset with bits 1:0 nonzero (R65). -/
  | misaligned
deriving DecidableEq, Repr

/-- Why an encoded input is no instruction. -/
inductive Reject where
  /-- A frame of no bits is never decoded (R82, R158). -/
  | emptyFrame
  /-- An access the port cannot express. -/
  | port (r : PortReject)
deriving DecidableEq, Repr

/-! ### The transaction word (R84) -/

/-- Field DIR, bit 38: 1 is a write. -/
def txnDir (w : TxnWord) : Bool := w.getLsbD 38

/-- Field IDX, bits 37:32. -/
def txnIdx (w : TxnWord) : RegIndex := w.extractLsb' 32 6

/-- Field DATA, bits 31:0. -/
def txnData (w : TxnWord) : Word := w.extractLsb' 0 32

/-- The word of `rd(i)`: DATA is 0. -/
def readWord (i : RegIndex) : TxnWord := 0#1 ++ i ++ 0#32

/-- The word of `wr(i, v)`. -/
def writeWord (i : RegIndex) (v : Word) : TxnWord := 1#1 ++ i ++ v

/-! ### The platform adapter (R64 to R66) -/

/-- A register as four bytes: bits 7:0 are the byte at the lowest offset (R66). -/
def wordBytes (v : Word) : List Byte :=
  [v.extractLsb' 0 8, v.extractLsb' 8 8, v.extractLsb' 16 8, v.extractLsb' 24 8]

/-- The transaction word of a request, or why a model refuses it (R64, R65; log 11). -/
def BusReq.toTxn : BusReq → Except PortReject TxnWord
  | .txn w => .ok w
  | .load offset size =>
      if size ≠ 4 then .error .accessWidth
      else if offset.extractLsb' 0 2 ≠ 0#2 then .error .misaligned
      else .ok (readWord (offset.extractLsb' 2 6))
  | .store offset [b0, b1, b2, b3] =>
      if offset.extractLsb' 0 2 ≠ 0#2 then .error .misaligned
      else .ok (writeWord (offset.extractLsb' 2 6) (b3 ++ b2 ++ b1 ++ b0))
  | .store _ _ => .error .accessWidth

/-! ### Command words and register rows (R85 to R88, R98) -/

/-- The command a word written to CMD stands for (R87, R88). -/
def decodeCmd (w : Word) : Instr :=
  if w = 0#32 then .nop else if w = 1#32 then .lock else if w = 2#32 then .unlock else .cmdRsvd w

/-- The read rows of indices 0 to 15 (R85). -/
def readRows0 : List Instr :=
  [.rdId, .rdCtrl, .rdStatus, .rdIrqEn, .rdCmd, .rdSilence, .rdPulse, .rdRelock, .rdDebounce0,
   .rdDebounce1, .rdDebounce2, .rdRsvd11, .rdCardLo, .rdCardHi, .rdCardInfo, .rdCardNum]

/-- The read rows of indices 16 to 31 (R85). -/
def readRows16 : List Instr :=
  [.rdErrLo, .rdErrHi, .rdErrLen, .rdRelockRem, .rdRsvd20, .rdRsvd21, .rdRsvd22, .rdRsvd23,
   .rdRsvd24, .rdRsvd25, .rdRsvd26, .rdRsvd27, .rdRsvd28, .rdRsvd29, .rdRsvd30, .rdRsvd31]

/-- The read rows of indices 32 to 47 (R85). -/
def readRows32 : List Instr :=
  [.rdRsvd32, .rdRsvd33, .rdRsvd34, .rdRsvd35, .rdRsvd36, .rdRsvd37, .rdRsvd38, .rdRsvd39,
   .rdRsvd40, .rdRsvd41, .rdRsvd42, .rdRsvd43, .rdRsvd44, .rdRsvd45, .rdRsvd46, .rdRsvd47]

/-- The read rows of indices 48 to 63 (R85). -/
def readRows48 : List Instr :=
  [.rdRsvd48, .rdRsvd49, .rdRsvd50, .rdRsvd51, .rdRsvd52, .rdRsvd53, .rdRsvd54, .rdRsvd55,
   .rdRsvd56, .rdRsvd57, .rdRsvd58, .rdRsvd59, .rdRsvd60, .rdRsvd61, .rdRsvd62, .rdRsvd63]

/-- The write rows of indices 0 to 15 (R85). -/
def writeRows0 : List (Word → Instr) :=
  [.wrId, .wrCtrl, .wrStatus, .wrIrqEn, .wrCmd, .wrSilence, .wrPulse, .wrRelock, .wrDebounce0,
   .wrDebounce1, .wrDebounce2, .wrRsvd11, .wrCardLo, .wrCardHi, .wrCardInfo, .wrCardNum]

/-- The write rows of indices 16 to 31 (R85). -/
def writeRows16 : List (Word → Instr) :=
  [.wrErrLo, .wrErrHi, .wrErrLen, .wrRelockRem, .wrRsvd20, .wrRsvd21, .wrRsvd22, .wrRsvd23,
   .wrRsvd24, .wrRsvd25, .wrRsvd26, .wrRsvd27, .wrRsvd28, .wrRsvd29, .wrRsvd30, .wrRsvd31]

/-- The write rows of indices 32 to 47 (R85). -/
def writeRows32 : List (Word → Instr) :=
  [.wrRsvd32, .wrRsvd33, .wrRsvd34, .wrRsvd35, .wrRsvd36, .wrRsvd37, .wrRsvd38, .wrRsvd39,
   .wrRsvd40, .wrRsvd41, .wrRsvd42, .wrRsvd43, .wrRsvd44, .wrRsvd45, .wrRsvd46, .wrRsvd47]

/-- The write rows of indices 48 to 63 (R85). -/
def writeRows48 : List (Word → Instr) :=
  [.wrRsvd48, .wrRsvd49, .wrRsvd50, .wrRsvd51, .wrRsvd52, .wrRsvd53, .wrRsvd54, .wrRsvd55,
   .wrRsvd56, .wrRsvd57, .wrRsvd58, .wrRsvd59, .wrRsvd60, .wrRsvd61, .wrRsvd62, .wrRsvd63]


/-- The read row of each index 0 to 63 (R85). -/
def readRows : List Instr := readRows0 ++ readRows16 ++ readRows32 ++ readRows48

/-- The write row of each index 0 to 63 (R85). -/
def writeRows : List (Word → Instr) := writeRows0 ++ writeRows16 ++ writeRows32 ++ writeRows48

/-- Decoding of a transaction word (R98): DIR and IDX select the row, and for a write of CMD the DATA
selects the command, so that the more specific rows of the table win. -/
def decodeTxn (w : TxnWord) : Instr :=
  if txnDir w then
    if txnIdx w = 4#6 then decodeCmd (txnData w)
    else writeRows.getD (txnIdx w).toNat .wrRsvd63 (txnData w)
  else readRows.getD (txnIdx w).toNat .rdRsvd63

/-! ### Frames (R82, R83, R89 to R95) -/

/-- Append a bit to the frame register: the new value has the old bits 62:0 above the bit (R143). -/
def appendBit (shift : FrameReg) (b : Bool) : FrameReg := shift.shiftConcat b

/-- The frame bit count, up by one, saturating at 255 (R143). -/
def countUp (count : FrameCount) : FrameCount := if count = 255#8 then 255#8 else count + 1#8

/-- The format a frame's length decides (R82): `len` is the saturated bit count and `v` the frame
register (R143). -/
def decodeFrame (len : FrameCount) (v : FrameReg) : Instr :=
  if len = 26#8 then .decW26 (v.setWidth 26)
  else if len = 32#8 then .decW32 (v.setWidth 32)
  else if len = 34#8 then .decW34 (v.setWidth 34)
  else if len = 64#8 then .decW64 v
  else .frameUnsupported len v

/-- The count of a frame's bits in the order received (R143). -/
def frameCount (bits : List Bool) : FrameCount := bits.foldl (fun c _ => countUp c) 0#8

/-- The frame register after a frame's bits in the order received (R143). -/
def frameValue (bits : List Bool) : FrameReg := bits.foldl appendBit 0#64

/-- Decoding of an encoded input (R80). -/
def decode : Code → Except Reject Instr
  | .bus r =>
      match r.toTxn with
      | .ok w => .ok (decodeTxn w)
      | .error e => .error (.port e)
  | .frame [] => .error .emptyFrame
  | .frame bits => .ok (decodeFrame (frameCount bits) (frameValue bits))

/-- The instruction the decoder reads from the number `w` of `nbits` bits (log 10): a transaction word
for 39 bits, or 40 with the top bit 0, and else a frame of `nbits` bits, its first bit the most
significant. -/
def decodeTableWord (nbits w : Nat) : Option Instr :=
  if nbits = 39 ∨ nbits = 40 then
    if w < 2 ^ 39 then some (decodeTxn (BitVec.ofNat 39 w)) else none
  else if nbits = 0 ∨ 2 ^ nbits ≤ w then none
  else some (decodeFrame (BitVec.ofNat 8 (min nbits 255)) (BitVec.ofNat 64 w))

/-! ### The encoder -/

/-- The low `n` bits of a value, the most significant first: the order received (R13, R83). -/
def bitsMsb : Nat → {w : Nat} → BitVec w → List Bool
  | 0, _, _ => []
  | n + 1, _, v => v.getLsbD n :: bitsMsb n v

/-- The encoding of a read of index `i` (R84). -/
def encodeRead (i : RegIndex) : Option Code := some (.bus (.txn (readWord i)))

/-- The encoding of a write of `v` to index `i` (R84). -/
def encodeWrite (i : RegIndex) (v : Word) : Option Code := some (.bus (.txn (writeWord i v)))

/-- The encoding of an instruction; the internal operations have none (R80). -/
def encode : Instr → Option Code
  | .decW26 f => some (.frame (bitsMsb 26 f))
  | .decW32 f => some (.frame (bitsMsb 32 f))
  | .decW34 f => some (.frame (bitsMsb 34 f))
  | .decW64 f => some (.frame (bitsMsb 64 f))
  | .frameUnsupported len bits => some (.frame (bitsMsb len.toNat bits))
  | .nop => encodeWrite 4#6 0#32
  | .lock => encodeWrite 4#6 1#32
  | .unlock => encodeWrite 4#6 2#32
  | .cmdRsvd w => encodeWrite 4#6 w
  | .rdId => encodeRead 0#6
  | .wrId v => encodeWrite 0#6 v
  | .rdCtrl => encodeRead 1#6
  | .wrCtrl v => encodeWrite 1#6 v
  | .rdStatus => encodeRead 2#6
  | .wrStatus v => encodeWrite 2#6 v
  | .rdIrqEn => encodeRead 3#6
  | .wrIrqEn v => encodeWrite 3#6 v
  | .rdCmd => encodeRead 4#6
  | .wrCmd v => encodeWrite 4#6 v
  | .rdSilence => encodeRead 5#6
  | .wrSilence v => encodeWrite 5#6 v
  | .rdPulse => encodeRead 6#6
  | .wrPulse v => encodeWrite 6#6 v
  | .rdRelock => encodeRead 7#6
  | .wrRelock v => encodeWrite 7#6 v
  | .rdDebounce0 => encodeRead 8#6
  | .wrDebounce0 v => encodeWrite 8#6 v
  | .rdDebounce1 => encodeRead 9#6
  | .wrDebounce1 v => encodeWrite 9#6 v
  | .rdDebounce2 => encodeRead 10#6
  | .wrDebounce2 v => encodeWrite 10#6 v
  | .rdRsvd11 => encodeRead 11#6
  | .wrRsvd11 v => encodeWrite 11#6 v
  | .rdCardLo => encodeRead 12#6
  | .wrCardLo v => encodeWrite 12#6 v
  | .rdCardHi => encodeRead 13#6
  | .wrCardHi v => encodeWrite 13#6 v
  | .rdCardInfo => encodeRead 14#6
  | .wrCardInfo v => encodeWrite 14#6 v
  | .rdCardNum => encodeRead 15#6
  | .wrCardNum v => encodeWrite 15#6 v
  | .rdErrLo => encodeRead 16#6
  | .wrErrLo v => encodeWrite 16#6 v
  | .rdErrHi => encodeRead 17#6
  | .wrErrHi v => encodeWrite 17#6 v
  | .rdErrLen => encodeRead 18#6
  | .wrErrLen v => encodeWrite 18#6 v
  | .rdRelockRem => encodeRead 19#6
  | .wrRelockRem v => encodeWrite 19#6 v
  | .rdRsvd20 => encodeRead 20#6
  | .wrRsvd20 v => encodeWrite 20#6 v
  | .rdRsvd21 => encodeRead 21#6
  | .wrRsvd21 v => encodeWrite 21#6 v
  | .rdRsvd22 => encodeRead 22#6
  | .wrRsvd22 v => encodeWrite 22#6 v
  | .rdRsvd23 => encodeRead 23#6
  | .wrRsvd23 v => encodeWrite 23#6 v
  | .rdRsvd24 => encodeRead 24#6
  | .wrRsvd24 v => encodeWrite 24#6 v
  | .rdRsvd25 => encodeRead 25#6
  | .wrRsvd25 v => encodeWrite 25#6 v
  | .rdRsvd26 => encodeRead 26#6
  | .wrRsvd26 v => encodeWrite 26#6 v
  | .rdRsvd27 => encodeRead 27#6
  | .wrRsvd27 v => encodeWrite 27#6 v
  | .rdRsvd28 => encodeRead 28#6
  | .wrRsvd28 v => encodeWrite 28#6 v
  | .rdRsvd29 => encodeRead 29#6
  | .wrRsvd29 v => encodeWrite 29#6 v
  | .rdRsvd30 => encodeRead 30#6
  | .wrRsvd30 v => encodeWrite 30#6 v
  | .rdRsvd31 => encodeRead 31#6
  | .wrRsvd31 v => encodeWrite 31#6 v
  | .rdRsvd32 => encodeRead 32#6
  | .wrRsvd32 v => encodeWrite 32#6 v
  | .rdRsvd33 => encodeRead 33#6
  | .wrRsvd33 v => encodeWrite 33#6 v
  | .rdRsvd34 => encodeRead 34#6
  | .wrRsvd34 v => encodeWrite 34#6 v
  | .rdRsvd35 => encodeRead 35#6
  | .wrRsvd35 v => encodeWrite 35#6 v
  | .rdRsvd36 => encodeRead 36#6
  | .wrRsvd36 v => encodeWrite 36#6 v
  | .rdRsvd37 => encodeRead 37#6
  | .wrRsvd37 v => encodeWrite 37#6 v
  | .rdRsvd38 => encodeRead 38#6
  | .wrRsvd38 v => encodeWrite 38#6 v
  | .rdRsvd39 => encodeRead 39#6
  | .wrRsvd39 v => encodeWrite 39#6 v
  | .rdRsvd40 => encodeRead 40#6
  | .wrRsvd40 v => encodeWrite 40#6 v
  | .rdRsvd41 => encodeRead 41#6
  | .wrRsvd41 v => encodeWrite 41#6 v
  | .rdRsvd42 => encodeRead 42#6
  | .wrRsvd42 v => encodeWrite 42#6 v
  | .rdRsvd43 => encodeRead 43#6
  | .wrRsvd43 v => encodeWrite 43#6 v
  | .rdRsvd44 => encodeRead 44#6
  | .wrRsvd44 v => encodeWrite 44#6 v
  | .rdRsvd45 => encodeRead 45#6
  | .wrRsvd45 v => encodeWrite 45#6 v
  | .rdRsvd46 => encodeRead 46#6
  | .wrRsvd46 v => encodeWrite 46#6 v
  | .rdRsvd47 => encodeRead 47#6
  | .wrRsvd47 v => encodeWrite 47#6 v
  | .rdRsvd48 => encodeRead 48#6
  | .wrRsvd48 v => encodeWrite 48#6 v
  | .rdRsvd49 => encodeRead 49#6
  | .wrRsvd49 v => encodeWrite 49#6 v
  | .rdRsvd50 => encodeRead 50#6
  | .wrRsvd50 v => encodeWrite 50#6 v
  | .rdRsvd51 => encodeRead 51#6
  | .wrRsvd51 v => encodeWrite 51#6 v
  | .rdRsvd52 => encodeRead 52#6
  | .wrRsvd52 v => encodeWrite 52#6 v
  | .rdRsvd53 => encodeRead 53#6
  | .wrRsvd53 v => encodeWrite 53#6 v
  | .rdRsvd54 => encodeRead 54#6
  | .wrRsvd54 v => encodeWrite 54#6 v
  | .rdRsvd55 => encodeRead 55#6
  | .wrRsvd55 v => encodeWrite 55#6 v
  | .rdRsvd56 => encodeRead 56#6
  | .wrRsvd56 v => encodeWrite 56#6 v
  | .rdRsvd57 => encodeRead 57#6
  | .wrRsvd57 v => encodeWrite 57#6 v
  | .rdRsvd58 => encodeRead 58#6
  | .wrRsvd58 v => encodeWrite 58#6 v
  | .rdRsvd59 => encodeRead 59#6
  | .wrRsvd59 v => encodeWrite 59#6 v
  | .rdRsvd60 => encodeRead 60#6
  | .wrRsvd60 v => encodeWrite 60#6 v
  | .rdRsvd61 => encodeRead 61#6
  | .wrRsvd61 v => encodeWrite 61#6 v
  | .rdRsvd62 => encodeRead 62#6
  | .wrRsvd62 v => encodeWrite 62#6 v
  | .rdRsvd63 => encodeRead 63#6
  | .wrRsvd63 v => encodeWrite 63#6 v
  | .wdTick | .close | .wdStop | .wdStart | .sensTick0 | .sensStop0 | .sensStart0 | .sensTick1
    | .sensStop1 | .sensStart1 | .sensTick2 | .sensStop2 | .sensStart2 | .actCycle | .relockFire => none

end Sys2Proof
end

