-- ==== Sys2Proof/Machine/State.lean ====
section
/-! DEFINITION. The state of WDIO (spec/10_state.md), the reasons a step can stop, and reset. -/

namespace Sys2Proof.Machine

/-- The Wiegand decoder's internal state `wd` (R35). -/
structure Decoder where
  primed : Bool
  prev0 : Bool
  prev1 : Bool
  count : FrameCount
  shift : FrameReg
  srem : Word
deriving DecidableEq, Repr

/-- One sensor channel's internal state `sn[k]` (R36). -/
structure Channel where
  primed : Bool
  prev : Bool
  pend : Bool
  cnt : Word
  state : Bool
deriving DecidableEq, Repr

/-- The actuator's internal state `act` (R37). `pDir` is `true` for LOCK. -/
structure Actuator where
  locked : Bool
  pActive : Bool
  pDir : Bool
  pRem : Word
  pFault : Bool
  rArmed : Bool
  rRem : Word
deriving DecidableEq, Repr

/-- The architectural state of the block: the stored host-visible registers (R22 to R32) and the
internal state (R35 to R37). ID, CMD, STATUS and RELOCK_REM are computed, not stored. -/
@[ext] structure Block where
  ctrl : Word
  irqEn : Word
  silence : Word
  pulse : Word
  relock : Word
  debounce0 : Word
  debounce1 : Word
  debounce2 : Word
  flags : FlagVec
  cardLo : Word
  cardHi : Word
  cardInfo : Word
  cardNum : Word
  errLo : Word
  errHi : Word
  errLen : Word
  wd : Decoder
  sn0 : Channel
  sn1 : Channel
  sn2 : Channel
  act : Actuator
deriving DecidableEq, Repr

/-- The machine. `cur` is the block at the start of the cycle, the `s.X` of R14. `nxt` is the block at
the end of the cycle as far as it is formed, the `X <- v` of R14, and `raised` the events raised so far
in the cycle, the vector `set` of R242: between cycles `nxt` is `cur` and `raised` is 0 (log 1).
`rdata` is the read data of the cycle last run (R62; log 2). `stim` holds the inputs of the coming
cycles, the next cycle's first, and `cycle` counts the cycles run (R8; log 3). -/
structure State where
  cur : Block
  nxt : Block
  raised : FlagVec
  rdata : Option Word
  stim : List Inputs
  cycle : Nat
deriving DecidableEq, Repr

/-- No fault exists: "No bus transaction, command word, frame or input level can fault, trap, halt or
reset the block" (R262). So no constructor raises one, and there is nothing safe or unsafe to say. -/
inductive Fault where
deriving DecidableEq, Repr

/-- Stimuli a model refuses. None is raised by an instruction's meaning. -/
inductive Refusal where
  /-- An arm of `exec` without a meaning; no arm answers so. Safe: the model stops. -/
  | notModelled (mnemonic : String)
  /-- Raised by a step whose cycle presents an adapter access of other than 32 bits (R64). Safe: the
  model stops where the spec says that a model refuses the access. -/
  | accessWidth
  /-- Raised by a step whose cycle presents an adapter access at a byte offset with bits 1:0 nonzero
  (R65). Safe: the model stops where the spec says that a model refuses the access. -/
  | misaligned
  /-- Raised by a step whose cycle presents more than one request (R61, and entry 23 of
  spec/93_implementation_defined.md). Safe: the spec calls it outside the contract. -/
  | busConflict
deriving DecidableEq, Repr

/-- The decoder at reset (R35, R40). -/
def Decoder.reset : Decoder :=
  { primed := false, prev0 := true, prev1 := true, count := 0#8, shift := 0#64, srem := 0#32 }

/-- A sensor channel at reset (R36, R40). -/
def Channel.reset : Channel :=
  { primed := false, prev := false, pend := false, cnt := 0#32, state := false }

/-- The actuator at reset: LOCKED, no pulse, nothing armed (R37, R40, R292). -/
def Actuator.reset : Actuator :=
  { locked := true, pActive := false, pDir := false, pRem := 0#32, pFault := false,
    rArmed := false, rRem := 0#32 }

/-- The reset state of the block (R40, R291). -/
def Block.reset : Block :=
  { ctrl := Config.ctrlReset, irqEn := 0#32, silence := Config.silenceReset,
    pulse := Config.pulseReset, relock := Config.relockReset, debounce0 := 0#32,
    debounce1 := 0#32, debounce2 := 0#32, flags := 0#11, cardLo := 0#32, cardHi := 0#32,
    cardInfo := 0#32, cardNum := 0#32, errLo := 0#32, errHi := 0#32, errLen := 0#32,
    wd := Decoder.reset, sn0 := Channel.reset, sn1 := Channel.reset, sn2 := Channel.reset,
    act := Actuator.reset }

/-- The machine right after reset: the block at R40, no cycle in formation and no stimulus placed
(logs 1 to 3). -/
def State.reset : State :=
  { cur := Block.reset, nxt := Block.reset, raised := 0#11, rdata := none, stim := [], cycle := 0 }

end Sys2Proof.Machine
end

