-- ==== Sys2Proof/Machine/Operands.lean ====
section
/-! DEFINITION. Fields of registers and frames, the inputs of a cycle, and what the cycle's transaction
writes (R12, R15, R23, R86, R89 to R92). -/

namespace Sys2Proof.Machine

/-! ### Values (R12) -/

/-- A bit as a register value: `zext_32`. -/
def boolWord (b : Bool) : Word := if b then 1#32 else 0#32

/-- The XOR of the low `n` bits of a value. -/
def xorLow {w : Nat} (v : BitVec w) : Nat → Bool
  | 0 => false
  | n + 1 => xor (v.getLsbD n) (xorLow v n)

/-- `xor_reduce(v)`: 1 when v has an odd number of one bits (R12). -/
def xorReduce {w : Nat} (v : BitVec w) : Bool := xorLow v w

/-- `max(x, 1)` on a duration in ticks (R183, R191). -/
def atLeastOne (x : Word) : Word := if x = 0#32 then 1#32 else x

/-- `sat_32(x + 1)` (R12, R114). -/
def satSucc (x : Word) : Word := if x = 0xFFFFFFFF#32 then x else x + 1#32

/-! ### CTRL (R23) -/

/-- Bit SENS_ENk of a CTRL value is bit 2 + k. -/
def sensEnBit (k : Chan) : Nat := 2 + k.num

/-- Bit SENS_POLk of a CTRL value is bit 5 + k. -/
def sensPolBit (k : Chan) : Nat := 5 + k.num

/-- CTRL.WD_EN. -/
def Block.wdEn (b : Block) : Bool := b.ctrl.getLsbD 0

/-- CTRL.AUTO_RELOCK: strike mode. -/
def Block.autoRelock (b : Block) : Bool := b.ctrl.getLsbD 1

/-- CTRL.SENS_ENk. -/
def Block.sensEn (b : Block) (k : Chan) : Bool := b.ctrl.getLsbD (sensEnBit k)

/-- CTRL.SENS_POLk. -/
def Block.sensPol (b : Block) (k : Chan) : Bool := b.ctrl.getLsbD (sensPolBit k)

/-- What a CTRL write stores: `zext_32(wdata[7:0])` (R223). -/
def ctrlStored (v : Word) : Word := (v.extractLsb' 0 8).setWidth 32

/-! ### Channels -/

/-- `sn[k]` (R36). -/
def Block.sn (b : Block) : Chan → Channel
  | .door => b.sn0
  | .proximity => b.sn1
  | .exitButton => b.sn2

/-- The block with `sn[k]` replaced. -/
def Block.putSn (b : Block) (k : Chan) (c : Channel) : Block :=
  match k with
  | .door => { b with sn0 := c }
  | .proximity => { b with sn1 := c }
  | .exitButton => { b with sn2 := c }

/-- DEBOUNCEk (R28). -/
def Block.debounce (b : Block) : Chan → Word
  | .door => b.debounce0
  | .proximity => b.debounce1
  | .exitButton => b.debounce2

/-! ### Command words (R86 to R88, R181) -/

/-- The operation of a command word. -/
inductive CmdOp where
  | nop
  | lock
  | unlock
  | reserved
deriving DecidableEq, Repr

/-- Command decode (R181). -/
def cmdOp (w : Word) : CmdOp :=
  if w = 0#32 then .nop else if w = 1#32 then .lock else if w = 2#32 then .unlock else .reserved

/-! ### The inputs of the cycle (R8, R15) -/

/-- The inputs of the cycle to run: the first stimulus, or else whatever the environment presents
(log 3). -/
def State.inputs (s : State) : Inputs :=
  match s.stim with
  | [] => Config.environment s.cycle
  | p :: _ => p

/-- The transaction word of the cycle, if it holds exactly one request that the port takes (R61). -/
def busTxn (p : Inputs) : Option TxnWord :=
  match p.bus with
  | [r] => r.toTxn.toOption
  | _ => none

/-- `wdata` of the cycle if `in.bus` is `wr(i, v)`, the `wr_to` of R15. -/
def State.written (s : State) (i : RegIndex) : Option Word :=
  match busTxn s.inputs with
  | some w => if txnDir w && txnIdx w == i then some (txnData w) else none
  | none => none

/-- The cycle writes CTRL with bit `n` at 0: `wr_to(CTRL) and wdata[n] = 0` (R147, R121, R201). -/
def State.clearsCtrl (s : State) (n : Nat) : Bool :=
  match s.written 1#6 with
  | some v => !v.getLsbD n
  | none => false

/-- The command the cycle writes to CMD, if it writes CMD (R181). -/
def State.command (s : State) : Option CmdOp := (s.written 4#6).map cmdOp

/-! ### Frame fields (R89 to R92) -/

/-- W26: FC = raw[24:17]. -/
def w26Facility (v : FrameReg) : BitVec 8 := v.extractLsb' 17 8

/-- W26: NUM = raw[16:1]. -/
def w26Number (v : FrameReg) : BitVec 16 := v.extractLsb' 1 16

/-- W26: the even parity check over raw[25:13] (R90; log 8). -/
def w26Even (v : FrameReg) : Bool := !xorReduce (v.extractLsb' 13 13)

/-- W26: the odd parity check over raw[12:0] (R90; log 8). -/
def w26Odd (v : FrameReg) : Bool := xorReduce (v.extractLsb' 0 13)

/-- W34: NUM = raw[32:1]. -/
def w34Number (v : FrameReg) : Word := v.extractLsb' 1 32

/-- W34: the even parity check over raw[33:17] (R92; log 8). -/
def w34Even (v : FrameReg) : Bool := !xorReduce (v.extractLsb' 17 17)

/-- W34: the odd parity check over raw[16:0] (R92; log 8). -/
def w34Odd (v : FrameReg) : Bool := xorReduce (v.extractLsb' 0 17)

/-- What a decode gives beside the raw value: CARD_INFO and CARD_NUM (R31, R96). -/
structure CardRead where
  info : Word
  num : Word
deriving DecidableEq, Repr

/-- CARD_INFO from its fields (R31): FC, NUM_VALID, FC_VALID, the two parity results, HAS_PARITY and
LEN; PAR_OK is the AND of HAS_PARITY and the two results. -/
def packInfo (fc : BitVec 8) (numValid fcValid odd even hasParity : Bool) (len : BitVec 8) : Word :=
  0#8 ++ fc ++ 0#2 ++ BitVec.ofBool numValid ++ BitVec.ofBool fcValid ++ BitVec.ofBool odd ++
    BitVec.ofBool even ++ BitVec.ofBool (hasParity && even && odd) ++ BitVec.ofBool hasParity ++ len

/-- DEC_W26 (R149). -/
def cardW26 (v : FrameReg) : CardRead :=
  { info := packInfo (w26Facility v) true true (w26Odd v) (w26Even v) true 26#8
    num := (w26Number v).setWidth 32 }

/-- DEC_W34 (R150). -/
def cardW34 (v : FrameReg) : CardRead :=
  { info := packInfo 0#8 true false (w34Odd v) (w34Even v) true 34#8
    num := w34Number v }

/-- DEC_W32 (R151): no parity, no fields. -/
def cardW32 : CardRead :=
  { info := packInfo 0#8 false false false false false 32#8, num := 0#32 }

/-- DEC_W64 (R152): no parity, no fields. -/
def cardW64 : CardRead :=
  { info := packInfo 0#8 false false false false false 64#8, num := 0#32 }

end Sys2Proof.Machine
end

