-- ==== Sys2Proof/Machine/Flags.lean ====
section
/-! DEFINITION. Events, event flags, the STATUS word and the outputs (R29, R30, R39, R225, R261). -/

namespace Sys2Proof.Machine

/-- The events (R261). -/
inductive Event where
  | cardValid
  | cardOvr
  | errValid
  | errOvr
  | lockDone
  | lockErr
  | cmdRej
  | sensChg (k : Chan)
deriving DecidableEq, Repr

/-- An event's code: its bit in STATUS and in IRQ_EN (R261). -/
def Event.code : Event → Nat
  | .cardValid => 0
  | .cardOvr => 1
  | .errValid => 2
  | .errOvr => 3
  | .lockDone => 4
  | .lockErr => 5
  | .cmdRej => 6
  | .sensChg k => 8 + k.num

/-- The flag vector with an event's bit alone. -/
def Event.bit (e : Event) : FlagVec := 1#11 <<< e.code

/-- The event flag of an event (R29). -/
def Block.flag (b : Block) (e : Event) : Bool := b.flags.getLsbD e.code

/-- The flags a value written to STATUS clears: `wdata[10:0] AND 0x77F` (R224). -/
def clearMask (v : Word) : FlagVec := v.setWidth 11 &&& 0x77F#11

/-- What a write of IRQ_EN stores: `wdata AND 0x77F` (R227). -/
def irqStored (v : Word) : Word := v &&& Config.flagMask

/-- FRAME_OPEN: the decoder holds an open frame (R30). -/
def Block.frameOpen (b : Block) : Bool := b.wd.count != 0#8

/-- `StatusWord` (R225). -/
def Block.statusWord (b : Block) : Word :=
  (b.flags &&& 0x77F#11).setWidth 32 ||| (boolWord b.act.locked <<< 16) |||
    (boolWord b.act.pActive <<< 17) ||| (boolWord b.act.rArmed <<< 18) |||
    (boolWord b.frameOpen <<< 19) ||| (boolWord b.sn0.state <<< 20) |||
    (boolWord b.sn1.state <<< 21) ||| (boolWord b.sn2.state <<< 22)

/-- RELOCK_REM: the ticks left before the relock fires, 0 when nothing is armed (R33, R239). -/
def Block.relockRem (b : Block) : Word := if b.act.rArmed then b.act.rRem else 0#32

/-- Output LOCK_OUT in a cycle that starts in this state (R39). -/
def Block.lockOut (b : Block) : Bool := b.act.pActive && b.act.pDir

/-- Output UNLOCK_OUT in a cycle that starts in this state (R39). -/
def Block.unlockOut (b : Block) : Bool := b.act.pActive && !b.act.pDir

/-- Output IRQ in a cycle that starts in this state (R39, R264). -/
def Block.irq (b : Block) : Bool := (b.flags &&& b.irqEn.setWidth 11) != 0#11

end Sys2Proof.Machine
end

