-- ==== Sys2Proof/Machine/Ops.lean ====
section
/-! DEFINITION. The named operations over the block's registers and units. Each reads the block at the
start of the cycle, `cur`, and writes the block at its end, `nxt` (R14). -/

namespace Sys2Proof.Machine

/-! ### The cycle (R14, R242) -/

/-- Replace the block being formed. -/
def State.putNxt (s : State) (b : Block) : State := { s with nxt := b }

/-- Return read data (R62). -/
def State.answer (s : State) (v : Word) : State := { s with rdata := some v }

/-- `raise E()`: add E's bit to the cycle's `set` (R260, R265). Nothing else is saved or changed: the
block has no trap. -/
def State.raise (s : State) (e : Event) : State := { s with raised := s.raised ||| e.bit }

/-- The start of a cycle: nothing written, nothing raised, no read data (R14, R242). -/
def State.beginCycle (s : State) : State :=
  { s with nxt := s.cur, raised := 0#11, rdata := none }

/-- The block at the end of the cycle: the writes formed, and the flags with the raised events set, so
that set wins over a clear of the same cycle (R224, R242, R266). -/
def State.formed (s : State) : Block := { s.nxt with flags := s.nxt.flags ||| s.raised }

/-- The end of a cycle: what was formed becomes the block, and the cycle's inputs are used up (R8). -/
def State.commit (s : State) : State :=
  { s with cur := s.formed, nxt := s.formed, raised := 0#11,
           stim := s.stim.tail, cycle := s.cycle + 1 }

/-- A request that reads. -/
def reqIsRead : BusReq → Bool
  | .txn w => !txnDir w
  | .load _ _ => true
  | .store _ _ => false

/-- A cycle with RST = 1: the block is reset whatever the inputs, and a read returns 0 (R290). -/
def State.resetCycle (s : State) : State :=
  { s with cur := Block.reset, nxt := Block.reset, raised := 0#11,
           rdata := if s.inputs.bus.any reqIsRead then some 0#32 else none,
           stim := s.stim.tail, cycle := s.cycle + 1 }

/-! ### Registers (R220) -/

/-- `RegRead(s, i)` (R220). -/
def Block.regRead (b : Block) (i : RegIndex) : Word :=
  match i.toNat with
  | 0 => Config.idValue
  | 1 => ctrlStored b.ctrl
  | 2 => b.statusWord
  | 3 => irqStored b.irqEn
  | 4 => 0#32
  | 5 => b.silence
  | 6 => b.pulse
  | 7 => b.relock
  | 8 => b.debounce0
  | 9 => b.debounce1
  | 10 => b.debounce2
  | 12 => b.cardLo
  | 13 => b.cardHi
  | 14 => b.cardInfo
  | 15 => b.cardNum
  | 16 => b.errLo
  | 17 => b.errHi
  | 18 => (b.errLen.extractLsb' 0 8).setWidth 32
  | 19 => b.relockRem
  | _ => 0#32

/-! ### Frames (R148 to R158) -/

/-- CardRead holding: load and raise CARD_VALID, or drop and raise CARD_OVR (R148, R154). -/
def State.loadCard (s : State) (v : FrameReg) (c : CardRead) : State :=
  if s.cur.flag .cardValid then s.raise .cardOvr
  else
    (s.putNxt { s.nxt with cardLo := v.extractLsb' 0 32, cardHi := v.extractLsb' 32 32,
                           cardInfo := c.info, cardNum := c.num }).raise .cardValid

/-- Discard holding: load and raise ERR_VALID, or drop and raise ERR_OVR (R148, R155). -/
def State.loadErr (s : State) (len : FrameCount) (v : FrameReg) : State :=
  if s.cur.flag .errValid then s.raise .errOvr
  else
    (s.putNxt { s.nxt with errLo := v.extractLsb' 0 32, errHi := v.extractLsb' 32 32,
                           errLen := len.setWidth 32 }).raise .errValid

/-- `Close(L, v)` (R148). -/
def State.closeFrame (s : State) (len : FrameCount) (v : FrameReg) : State :=
  if len = 26#8 then s.loadCard v (cardW26 v)
  else if len = 32#8 then s.loadCard v cardW32
  else if len = 34#8 then s.loadCard v (cardW34 v)
  else if len = 64#8 then s.loadCard v cardW64
  else s.loadErr len v

/-- The open frame closes on this tick (R145, R158). -/
def Decoder.closes (d : Decoder) : Bool := d.count != 0#8 && d.srem == 0#32

/-- The frame before the tick's bits: cleared by a close, or its silence counted down (R144, R157). -/
def Decoder.age (d : Decoder) : Decoder :=
  if d.closes then { d with count := 0#8, shift := 0#64 }
  else if d.count != 0#8 then { d with srem := d.srem - 1#32 }
  else d

/-- Append a bit to the frame (R143). -/
def Decoder.append (d : Decoder) (b : Bool) : Decoder :=
  { d with count := countUp d.count, shift := appendBit d.shift b }

/-- A running, primed tick with the line levels: age, append DATA0's bit then DATA1's, reload the
silence countdown if a bit came, and keep the levels (R141 to R147). -/
def Decoder.sample (d : Decoder) (silence : Word) (d0 d1 : Bool) : Decoder :=
  let f0 := d.prev0 && !d0
  let f1 := d.prev1 && !d1
  let a := d.age
  let b := if f0 then a.append false else a
  let c := if f1 then b.append true else b
  { c with prev0 := d0, prev1 := d1, srem := if f0 || f1 then silence else c.srem }

/-- A priming tick (R160). -/
def Decoder.prime (d : Decoder) (d0 d1 : Bool) : Decoder :=
  { d with prev0 := d0, prev1 := d1, primed := true }

/-- `WiegandTick()` (R147). -/
def State.wdTick (s : State) : State :=
  let p := s.inputs
  if !p.tick || s.clearsCtrl 0 || !s.cur.wdEn then s
  else if !s.cur.wd.primed then s.putNxt { s.nxt with wd := s.cur.wd.prime p.d0 p.d1 }
  else
    let t := if s.cur.wd.closes then s.closeFrame s.cur.wd.count s.cur.wd.shift else s
    t.putNxt { t.nxt with wd := s.cur.wd.sample s.cur.silence p.d0 p.d1 }

/-- What WD_STOP writes (R159). -/
def Decoder.stopped : Decoder :=
  { primed := false, prev0 := true, prev1 := true, count := 0#8, shift := 0#64, srem := 0#32 }

/-- `WD_STOP()` (R159). -/
def Block.wdStop (b : Block) : Block := { b with wd := Decoder.stopped }

/-! ### Sensor channels (R111 to R121) -/

/-- Edge detection and ageing of a pending evaluation (R114). -/
def Channel.age (c : Channel) (level : Bool) : Channel :=
  if level != c.prev then { c with prev := level, pend := true, cnt := 0#32 }
  else if c.pend then { c with cnt := satSucc c.cnt }
  else c

/-- A pending evaluation has waited for DEBOUNCEk ticks (R115). -/
def Channel.due (c : Channel) (debounce : Word) : Bool := c.pend && decide (debounce ≤ c.cnt)

/-- A running, primed tick (R114, R115): the logical state is the level through the polarity (R111). -/
def Channel.sample (c : Channel) (level pol : Bool) (debounce : Word) : Channel :=
  let a := c.age level
  if a.due debounce then { a with pend := false, state := xor level pol } else a

/-- Such a tick publishes a changed logical state (R115). -/
def Channel.publishes (c : Channel) (level pol : Bool) (debounce : Word) : Bool :=
  (c.age level).due debounce && (xor level pol != c.state)

/-- A priming tick (R113). -/
def Channel.prime (c : Channel) (level : Bool) : Channel := { c with prev := level, primed := true }

/-- `SensorTick(k)` (R121). -/
def State.sensTick (s : State) (k : Chan) : State :=
  let p := s.inputs
  let c := s.cur.sn k
  if !p.tick || s.clearsCtrl (sensEnBit k) || !s.cur.sensEn k then s
  else if !c.primed then s.putNxt (s.nxt.putSn k (c.prime (p.sens k)))
  else
    let t := s.putNxt (s.nxt.putSn k (c.sample (p.sens k) (s.cur.sensPol k) (s.cur.debounce k)))
    if c.publishes (p.sens k) (s.cur.sensPol k) (s.cur.debounce k) then t.raise (.sensChg k) else t

/-- What SENS_STOP writes: the pending evaluation is abandoned, `state` and `prev` are kept (R117). -/
def Channel.stop (c : Channel) : Channel := { c with primed := false, pend := false, cnt := 0#32 }

/-- `SENS_STOP(k)` (R117). -/
def Block.sensStop (b : Block) (k : Chan) : Block := b.putSn k (b.sn k).stop

/-- `SENS_START(k)`: the enable bit is stored when it is 0; a running channel is left as it is (R118). -/
def State.sensStart (s : State) (k : Chan) : State :=
  if s.cur.sensEn k then s
  else s.putNxt { s.nxt with ctrl := s.nxt.ctrl ||| (1#32 <<< sensEnBit k) }

/-! ### The actuator (R181 to R201) -/

/-- Start a pulse in a direction, `true` for LOCK (R183, R184). -/
def Actuator.startPulse (a : Actuator) (dir : Bool) (pulse : Word) : Actuator :=
  { a with pActive := true, pDir := dir, pRem := atLeastOne pulse, pFault := false }

/-- Cancel a pending relock (R194, R196). -/
def Actuator.disarm (a : Actuator) : Actuator := { a with rArmed := false, rRem := 0#32 }

/-- Acceptance of a command: its pulse starts and a pending relock is cancelled (R183, R184, R194). -/
def State.acceptPulse (s : State) (dir : Bool) : State :=
  s.putNxt { s.nxt with act := (s.nxt.act.startPulse dir s.cur.pulse).disarm }

/-- LOCK or UNLOCK: refused with CMD_REJ while BUSY, else accepted (R183, R184, R186). -/
def State.tryPulse (s : State) (dir : Bool) : State :=
  if s.cur.act.pActive then s.raise .cmdRej else s.acceptPulse dir

/-- The effect of a command in the cycle of its write (R182 to R185). -/
def State.doCommand (s : State) (op : CmdOp) : State :=
  match op with
  | .nop => s
  | .lock => s.tryPulse true
  | .unlock => s.tryPulse false
  | .reserved => s.raise .cmdRej

/-- The cycle accepts a command: LOCK or UNLOCK written while not BUSY (R186, R201). -/
def State.accepts (s : State) : Bool :=
  (s.command == some .lock || s.command == some .unlock) && !s.cur.act.pActive

/-- DRV_FAULT was seen in this pulse up to and including this tick (R188). -/
def State.pulseFault (s : State) : Bool := s.cur.act.pFault || s.inputs.fault

/-- The logical state after a completion: the pulse's direction, or unchanged after a fault
(R189, R190). -/
def State.lockedAfter (s : State) : Bool :=
  if s.pulseFault then s.cur.act.locked else s.cur.act.pDir

/-- Arm the relock for a duration (R191). -/
def Actuator.arm (a : Actuator) (relock : Word) : Actuator :=
  { a with rArmed := true, rRem := atLeastOne relock }

/-- Completion of the pulse (R189, R190, R191). -/
def State.completePulse (s : State) : State :=
  let a := { s.nxt.act with pActive := false, pRem := 0#32, pFault := false, locked := s.lockedAfter }
  let a := if s.cur.autoRelock && !s.lockedAfter then a.arm s.cur.relock else a
  (s.putNxt { s.nxt with act := a }).raise (if s.pulseFault then .lockErr else .lockDone)

/-- One tick of a pulse (R187, R188). -/
def State.pulseTick (s : State) : State :=
  if s.cur.act.pRem - 1#32 = 0#32 then s.completePulse
  else s.putNxt { s.nxt with act := { s.nxt.act with pRem := s.cur.act.pRem - 1#32,
                                                     pFault := s.pulseFault } }

/-- The relock fires: it disarms, and starts a LOCK pulse if the lock is UNLOCKED (R192, R193). -/
def State.fireRelock (s : State) : State :=
  let a := s.nxt.act.disarm
  s.putNxt { s.nxt with act := if s.cur.act.locked then a else a.startPulse true s.cur.pulse }

/-- One tick of an armed relock (R192). -/
def State.relockTick (s : State) : State :=
  if s.cur.act.rRem = 1#32 then s.fireRelock
  else s.putNxt { s.nxt with act := { s.nxt.act with rRem := s.cur.act.rRem - 1#32 } }

/-- Cancel a pending relock in the block being formed (R196). -/
def State.cancelRelock (s : State) : State := s.putNxt { s.nxt with act := s.nxt.act.disarm }

/-- The command part of the actuator's cycle (R201). -/
def State.commandCycle (s : State) : State :=
  match s.command with
  | some op => s.doCommand op
  | none => s

/-- The tick part of the actuator's cycle, in a cycle that accepts no command (R187, R192, R201). -/
def State.tickCycle (s : State) : State :=
  if s.accepts || !s.inputs.tick then s
  else if s.cur.act.pActive then s.pulseTick
  else if s.cur.act.rArmed then s.relockTick
  else s

/-- `ActuatorCycle()` (R201); the relock cancel of a CTRL write comes last. -/
def State.actCycle (s : State) : State :=
  let t := s.commandCycle.tickCycle
  if s.clearsCtrl 1 then t.cancelRelock else t

/-! ### The CTRL write (R223) -/

/-- WR_CTRL on the block being formed: store the bits, then the stop side effects (R223). -/
def Block.writeCtrl (b : Block) (v : Word) : Block :=
  let b := { b with ctrl := ctrlStored v }
  let b := if v.getLsbD 0 then b else b.wdStop
  let b := if v.getLsbD (sensEnBit .door) then b else b.sensStop .door
  let b := if v.getLsbD (sensEnBit .proximity) then b else b.sensStop .proximity
  let b := if v.getLsbD (sensEnBit .exitButton) then b else b.sensStop .exitButton
  if v.getLsbD 1 then b else { b with act := b.act.disarm }

end Sys2Proof.Machine
end

