-- ==== Sys2Proof/Machine/ActuatorOps.lean ====
section
/-! DEFINITION. The actuator's internal operations (R192, R201). -/

namespace Sys2Proof.Machine

/-- ACT_CYCLE, in every cycle (R201). -/
def execActCycle (s : State) : Host.Outcome State Fault Refusal :=
  .next s.actCycle

/-- RELOCK_FIRE, on a tick with a relock armed and one tick left (R192, R193; log 14). -/
def execRelockFire (s : State) : Host.Outcome State Fault Refusal :=
  .next (if s.inputs.tick && s.cur.act.rArmed && s.cur.act.rRem == 1#32 then s.fireRelock else s)

end Sys2Proof.Machine
end

