-- ==== Sys2Proof/Machine/Commands.lean ====
section
/-! DEFINITION. The command words (R182 to R185): their effect in the cycle of the write. -/

namespace Sys2Proof.Machine

/-- NOP: no actuator statement (R182). -/
def execNop (s : State) : Host.Outcome State Fault Refusal :=
  .next s

/-- LOCK: accepted, or refused while BUSY (R183, R186). -/
def execLock (s : State) : Host.Outcome State Fault Refusal :=
  .next (s.tryPulse true)

/-- UNLOCK: accepted, or refused while BUSY (R184, R186). -/
def execUnlock (s : State) : Host.Outcome State Fault Refusal :=
  .next (s.tryPulse false)

/-- A reserved command word raises CMD_REJ and writes nothing else (R185). -/
def execCmdRsvd (_w : Word) (s : State) : Host.Outcome State Fault Refusal :=
  .next (s.raise .cmdRej)

end Sys2Proof.Machine
end

