-- ==== Sys2Proof/Machine/DecoderOps.lean ====
section
/-! DEFINITION. The decoder's internal operations (R147, R148, R159, R160). -/

namespace Sys2Proof.Machine

/-- WD_TICK, on a tick of a running decoder (R147). -/
def execWdTick (s : State) : Host.Outcome State Fault Refusal :=
  .next s.wdTick

/-- CLOSE, when the open frame has been silent for long enough (R145, R148; log 14). -/
def execClose (s : State) : Host.Outcome State Fault Refusal :=
  .next (if s.cur.wd.closes then s.closeFrame s.cur.wd.count s.cur.wd.shift else s)

/-- WD_STOP (R159). -/
def execWdStop (s : State) : Host.Outcome State Fault Refusal :=
  .next (s.putNxt s.nxt.wdStop)

/-- WD_START: the bit is stored when WD_EN is 0; a running decoder is left as it is (R160; log 14). -/
def execWdStart (s : State) : Host.Outcome State Fault Refusal :=
  .next (if s.cur.wdEn then s else s.putNxt { s.nxt with ctrl := s.nxt.ctrl ||| 1#32 })

end Sys2Proof.Machine
end

