-- ==== Sys2Proof/Machine/Frames.lean ====
section
/-! DEFINITION. The frame family: what a closed frame does (R148 to R156). -/

namespace Sys2Proof.Machine

/-- DEC_W26: load or drop the CardRead of a 26-bit frame (R149, R154). -/
def execDecW26 (f : BitVec 26) (s : State) : Host.Outcome State Fault Refusal :=
  .next (s.loadCard (f.setWidth 64) (cardW26 (f.setWidth 64)))

/-- DEC_W32: load or drop the CardRead of a 32-bit frame (R151, R154). -/
def execDecW32 (f : BitVec 32) (s : State) : Host.Outcome State Fault Refusal :=
  .next (s.loadCard (f.setWidth 64) cardW32)

/-- DEC_W34: load or drop the CardRead of a 34-bit frame (R150, R154). -/
def execDecW34 (f : BitVec 34) (s : State) : Host.Outcome State Fault Refusal :=
  .next (s.loadCard (f.setWidth 64) (cardW34 (f.setWidth 64)))

/-- DEC_W64: load or drop the CardRead of a 64-bit frame (R152, R154). -/
def execDecW64 (f : BitVec 64) (s : State) : Host.Outcome State Fault Refusal :=
  .next (s.loadCard f cardW64)

/-- FRAME_UNSUPPORTED: report or drop a frame of an unsupported length (R153, R155). -/
def execFrameUnsupported (len : FrameCount) (bits : FrameReg) (s : State) : Host.Outcome State Fault Refusal :=
  .next (s.loadErr len bits)

end Sys2Proof.Machine
end

