-- ==== Sys2Proof/Machine/RegReads.lean ====
section
/-! DEFINITION. Reads of the named registers (R220 to R239): the value at the start of the cycle, and no side effect. -/

namespace Sys2Proof.Machine

/-- RD_ID (R221). -/
def execRdId (s : State) : Host.Outcome State Fault Refusal :=
  .next (s.answer Config.idValue)

/-- RD_CTRL (R222). -/
def execRdCtrl (s : State) : Host.Outcome State Fault Refusal :=
  .next (s.answer (ctrlStored s.cur.ctrl))

/-- RD_STATUS (R225). -/
def execRdStatus (s : State) : Host.Outcome State Fault Refusal :=
  .next (s.answer s.cur.statusWord)

/-- RD_IRQ_EN (R226). -/
def execRdIrqEn (s : State) : Host.Outcome State Fault Refusal :=
  .next (s.answer (irqStored s.cur.irqEn))

/-- RD_CMD (R228). -/
def execRdCmd (s : State) : Host.Outcome State Fault Refusal :=
  .next (s.answer 0#32)

/-- RD_SILENCE (R230). -/
def execRdSilence (s : State) : Host.Outcome State Fault Refusal :=
  .next (s.answer s.cur.silence)

/-- RD_PULSE (R231). -/
def execRdPulse (s : State) : Host.Outcome State Fault Refusal :=
  .next (s.answer s.cur.pulse)

/-- RD_RELOCK (R232). -/
def execRdRelock (s : State) : Host.Outcome State Fault Refusal :=
  .next (s.answer s.cur.relock)

/-- RD_DEBOUNCE0 (R233). -/
def execRdDebounce0 (s : State) : Host.Outcome State Fault Refusal :=
  .next (s.answer s.cur.debounce0)

/-- RD_DEBOUNCE1 (R233). -/
def execRdDebounce1 (s : State) : Host.Outcome State Fault Refusal :=
  .next (s.answer s.cur.debounce1)

/-- RD_DEBOUNCE2 (R233). -/
def execRdDebounce2 (s : State) : Host.Outcome State Fault Refusal :=
  .next (s.answer s.cur.debounce2)

/-- RD_CARD_LO (R234). -/
def execRdCardLo (s : State) : Host.Outcome State Fault Refusal :=
  .next (s.answer s.cur.cardLo)

/-- RD_CARD_HI (R234). -/
def execRdCardHi (s : State) : Host.Outcome State Fault Refusal :=
  .next (s.answer s.cur.cardHi)

/-- RD_CARD_INFO (R235). -/
def execRdCardInfo (s : State) : Host.Outcome State Fault Refusal :=
  .next (s.answer s.cur.cardInfo)

/-- RD_CARD_NUM (R236). -/
def execRdCardNum (s : State) : Host.Outcome State Fault Refusal :=
  .next (s.answer s.cur.cardNum)

/-- RD_ERR_LO (R237). -/
def execRdErrLo (s : State) : Host.Outcome State Fault Refusal :=
  .next (s.answer s.cur.errLo)

/-- RD_ERR_HI (R237). -/
def execRdErrHi (s : State) : Host.Outcome State Fault Refusal :=
  .next (s.answer s.cur.errHi)

/-- RD_ERR_LEN (R238). -/
def execRdErrLen (s : State) : Host.Outcome State Fault Refusal :=
  .next (s.answer ((s.cur.errLen.extractLsb' 0 8).setWidth 32))

/-- RD_RELOCK_REM (R239). -/
def execRdRelockRem (s : State) : Host.Outcome State Fault Refusal :=
  .next (s.answer s.cur.relockRem)

end Sys2Proof.Machine
end

