-- ==== Sys2Proof/Machine/RegWrites.lean ====
section
/-! DEFINITION. Writes of the named registers (R221 to R239). -/

namespace Sys2Proof.Machine

/-- WR_ID is ignored (R221, R241). -/
def execWrId (_v : Word) (s : State) : Host.Outcome State Fault Refusal :=
  .next s

/-- WR_CTRL (R223). -/
def execWrCtrl (v : Word) (s : State) : Host.Outcome State Fault Refusal :=
  .next (s.putNxt (s.nxt.writeCtrl v))

/-- WR_STATUS (R224). -/
def execWrStatus (v : Word) (s : State) : Host.Outcome State Fault Refusal :=
  .next (s.putNxt { s.nxt with flags := s.cur.flags &&& ~~~(clearMask v) })

/-- WR_IRQ_EN (R227). -/
def execWrIrqEn (v : Word) (s : State) : Host.Outcome State Fault Refusal :=
  .next (s.putNxt { s.nxt with irqEn := irqStored v })

/-- WR_CMD (R229). -/
def execWrCmd (v : Word) (s : State) : Host.Outcome State Fault Refusal :=
  .next (s.doCommand (cmdOp v))

/-- WR_SILENCE (R230). -/
def execWrSilence (v : Word) (s : State) : Host.Outcome State Fault Refusal :=
  .next (s.putNxt { s.nxt with silence := v })

/-- WR_PULSE (R231). -/
def execWrPulse (v : Word) (s : State) : Host.Outcome State Fault Refusal :=
  .next (s.putNxt { s.nxt with pulse := v })

/-- WR_RELOCK (R232). -/
def execWrRelock (v : Word) (s : State) : Host.Outcome State Fault Refusal :=
  .next (s.putNxt { s.nxt with relock := v })

/-- WR_DEBOUNCE0 (R233). -/
def execWrDebounce0 (v : Word) (s : State) : Host.Outcome State Fault Refusal :=
  .next (s.putNxt { s.nxt with debounce0 := v })

/-- WR_DEBOUNCE1 (R233). -/
def execWrDebounce1 (v : Word) (s : State) : Host.Outcome State Fault Refusal :=
  .next (s.putNxt { s.nxt with debounce1 := v })

/-- WR_DEBOUNCE2 (R233). -/
def execWrDebounce2 (v : Word) (s : State) : Host.Outcome State Fault Refusal :=
  .next (s.putNxt { s.nxt with debounce2 := v })

/-- WR_CARD_LO is ignored (R234, R241). -/
def execWrCardLo (_v : Word) (s : State) : Host.Outcome State Fault Refusal :=
  .next s

/-- WR_CARD_HI is ignored (R234, R241). -/
def execWrCardHi (_v : Word) (s : State) : Host.Outcome State Fault Refusal :=
  .next s

/-- WR_CARD_INFO is ignored (R235, R241). -/
def execWrCardInfo (_v : Word) (s : State) : Host.Outcome State Fault Refusal :=
  .next s

/-- WR_CARD_NUM is ignored (R236, R241). -/
def execWrCardNum (_v : Word) (s : State) : Host.Outcome State Fault Refusal :=
  .next s

/-- WR_ERR_LO is ignored (R237, R241). -/
def execWrErrLo (_v : Word) (s : State) : Host.Outcome State Fault Refusal :=
  .next s

/-- WR_ERR_HI is ignored (R237, R241). -/
def execWrErrHi (_v : Word) (s : State) : Host.Outcome State Fault Refusal :=
  .next s

/-- WR_ERR_LEN is ignored (R238, R241). -/
def execWrErrLen (_v : Word) (s : State) : Host.Outcome State Fault Refusal :=
  .next s

/-- WR_RELOCK_REM is ignored (R239, R241). -/
def execWrRelockRem (_v : Word) (s : State) : Host.Outcome State Fault Refusal :=
  .next s

end Sys2Proof.Machine
end

