-- ==== Sys2Proof/Machine/Reserved.lean ====
section
/-! DEFINITION. Reads and writes of the reserved indices 11 and 20 to 63 (R240). -/

namespace Sys2Proof.Machine

/-- RD_RSVD_11 reads 0 (R240). -/
def execRdRsvd11 (s : State) : Host.Outcome State Fault Refusal :=
  .next (s.answer 0#32)

/-- WR_RSVD_11 is ignored (R240). -/
def execWrRsvd11 (_v : Word) (s : State) : Host.Outcome State Fault Refusal :=
  .next s

/-- RD_RSVD_20 reads 0 (R240). -/
def execRdRsvd20 (s : State) : Host.Outcome State Fault Refusal :=
  .next (s.answer 0#32)

/-- WR_RSVD_20 is ignored (R240). -/
def execWrRsvd20 (_v : Word) (s : State) : Host.Outcome State Fault Refusal :=
  .next s

/-- RD_RSVD_21 reads 0 (R240). -/
def execRdRsvd21 (s : State) : Host.Outcome State Fault Refusal :=
  .next (s.answer 0#32)

/-- WR_RSVD_21 is ignored (R240). -/
def execWrRsvd21 (_v : Word) (s : State) : Host.Outcome State Fault Refusal :=
  .next s

/-- RD_RSVD_22 reads 0 (R240). -/
def execRdRsvd22 (s : State) : Host.Outcome State Fault Refusal :=
  .next (s.answer 0#32)

/-- WR_RSVD_22 is ignored (R240). -/
def execWrRsvd22 (_v : Word) (s : State) : Host.Outcome State Fault Refusal :=
  .next s

/-- RD_RSVD_23 reads 0 (R240). -/
def execRdRsvd23 (s : State) : Host.Outcome State Fault Refusal :=
  .next (s.answer 0#32)

/-- WR_RSVD_23 is ignored (R240). -/
def execWrRsvd23 (_v : Word) (s : State) : Host.Outcome State Fault Refusal :=
  .next s

/-- RD_RSVD_24 reads 0 (R240). -/
def execRdRsvd24 (s : State) : Host.Outcome State Fault Refusal :=
  .next (s.answer 0#32)

/-- WR_RSVD_24 is ignored (R240). -/
def execWrRsvd24 (_v : Word) (s : State) : Host.Outcome State Fault Refusal :=
  .next s

/-- RD_RSVD_25 reads 0 (R240). -/
def execRdRsvd25 (s : State) : Host.Outcome State Fault Refusal :=
  .next (s.answer 0#32)

/-- WR_RSVD_25 is ignored (R240). -/
def execWrRsvd25 (_v : Word) (s : State) : Host.Outcome State Fault Refusal :=
  .next s

/-- RD_RSVD_26 reads 0 (R240). -/
def execRdRsvd26 (s : State) : Host.Outcome State Fault Refusal :=
  .next (s.answer 0#32)

/-- WR_RSVD_26 is ignored (R240). -/
def execWrRsvd26 (_v : Word) (s : State) : Host.Outcome State Fault Refusal :=
  .next s

/-- RD_RSVD_27 reads 0 (R240). -/
def execRdRsvd27 (s : State) : Host.Outcome State Fault Refusal :=
  .next (s.answer 0#32)

/-- WR_RSVD_27 is ignored (R240). -/
def execWrRsvd27 (_v : Word) (s : State) : Host.Outcome State Fault Refusal :=
  .next s

/-- RD_RSVD_28 reads 0 (R240). -/
def execRdRsvd28 (s : State) : Host.Outcome State Fault Refusal :=
  .next (s.answer 0#32)

/-- WR_RSVD_28 is ignored (R240). -/
def execWrRsvd28 (_v : Word) (s : State) : Host.Outcome State Fault Refusal :=
  .next s

/-- RD_RSVD_29 reads 0 (R240). -/
def execRdRsvd29 (s : State) : Host.Outcome State Fault Refusal :=
  .next (s.answer 0#32)

/-- WR_RSVD_29 is ignored (R240). -/
def execWrRsvd29 (_v : Word) (s : State) : Host.Outcome State Fault Refusal :=
  .next s

/-- RD_RSVD_30 reads 0 (R240). -/
def execRdRsvd30 (s : State) : Host.Outcome State Fault Refusal :=
  .next (s.answer 0#32)

/-- WR_RSVD_30 is ignored (R240). -/
def execWrRsvd30 (_v : Word) (s : State) : Host.Outcome State Fault Refusal :=
  .next s

/-- RD_RSVD_31 reads 0 (R240). -/
def execRdRsvd31 (s : State) : Host.Outcome State Fault Refusal :=
  .next (s.answer 0#32)

/-- WR_RSVD_31 is ignored (R240). -/
def execWrRsvd31 (_v : Word) (s : State) : Host.Outcome State Fault Refusal :=
  .next s

/-- RD_RSVD_32 reads 0 (R240). -/
def execRdRsvd32 (s : State) : Host.Outcome State Fault Refusal :=
  .next (s.answer 0#32)

/-- WR_RSVD_32 is ignored (R240). -/
def execWrRsvd32 (_v : Word) (s : State) : Host.Outcome State Fault Refusal :=
  .next s

/-- RD_RSVD_33 reads 0 (R240). -/
def execRdRsvd33 (s : State) : Host.Outcome State Fault Refusal :=
  .next (s.answer 0#32)

/-- WR_RSVD_33 is ignored (R240). -/
def execWrRsvd33 (_v : Word) (s : State) : Host.Outcome State Fault Refusal :=
  .next s

/-- RD_RSVD_34 reads 0 (R240). -/
def execRdRsvd34 (s : State) : Host.Outcome State Fault Refusal :=
  .next (s.answer 0#32)

/-- WR_RSVD_34 is ignored (R240). -/
def execWrRsvd34 (_v : Word) (s : State) : Host.Outcome State Fault Refusal :=
  .next s

/-- RD_RSVD_35 reads 0 (R240). -/
def execRdRsvd35 (s : State) : Host.Outcome State Fault Refusal :=
  .next (s.answer 0#32)

/-- WR_RSVD_35 is ignored (R240). -/
def execWrRsvd35 (_v : Word) (s : State) : Host.Outcome State Fault Refusal :=
  .next s

/-- RD_RSVD_36 reads 0 (R240). -/
def execRdRsvd36 (s : State) : Host.Outcome State Fault Refusal :=
  .next (s.answer 0#32)

/-- WR_RSVD_36 is ignored (R240). -/
def execWrRsvd36 (_v : Word) (s : State) : Host.Outcome State Fault Refusal :=
  .next s

/-- RD_RSVD_37 reads 0 (R240). -/
def execRdRsvd37 (s : State) : Host.Outcome State Fault Refusal :=
  .next (s.answer 0#32)

/-- WR_RSVD_37 is ignored (R240). -/
def execWrRsvd37 (_v : Word) (s : State) : Host.Outcome State Fault Refusal :=
  .next s

/-- RD_RSVD_38 reads 0 (R240). -/
def execRdRsvd38 (s : State) : Host.Outcome State Fault Refusal :=
  .next (s.answer 0#32)

/-- WR_RSVD_38 is ignored (R240). -/
def execWrRsvd38 (_v : Word) (s : State) : Host.Outcome State Fault Refusal :=
  .next s

/-- RD_RSVD_39 reads 0 (R240). -/
def execRdRsvd39 (s : State) : Host.Outcome State Fault Refusal :=
  .next (s.answer 0#32)

/-- WR_RSVD_39 is ignored (R240). -/
def execWrRsvd39 (_v : Word) (s : State) : Host.Outcome State Fault Refusal :=
  .next s

/-- RD_RSVD_40 reads 0 (R240). -/
def execRdRsvd40 (s : State) : Host.Outcome State Fault Refusal :=
  .next (s.answer 0#32)

/-- WR_RSVD_40 is ignored (R240). -/
def execWrRsvd40 (_v : Word) (s : State) : Host.Outcome State Fault Refusal :=
  .next s

/-- RD_RSVD_41 reads 0 (R240). -/
def execRdRsvd41 (s : State) : Host.Outcome State Fault Refusal :=
  .next (s.answer 0#32)

/-- WR_RSVD_41 is ignored (R240). -/
def execWrRsvd41 (_v : Word) (s : State) : Host.Outcome State Fault Refusal :=
  .next s

/-- RD_RSVD_42 reads 0 (R240). -/
def execRdRsvd42 (s : State) : Host.Outcome State Fault Refusal :=
  .next (s.answer 0#32)

/-- WR_RSVD_42 is ignored (R240). -/
def execWrRsvd42 (_v : Word) (s : State) : Host.Outcome State Fault Refusal :=
  .next s

/-- RD_RSVD_43 reads 0 (R240). -/
def execRdRsvd43 (s : State) : Host.Outcome State Fault Refusal :=
  .next (s.answer 0#32)

/-- WR_RSVD_43 is ignored (R240). -/
def execWrRsvd43 (_v : Word) (s : State) : Host.Outcome State Fault Refusal :=
  .next s

/-- RD_RSVD_44 reads 0 (R240). -/
def execRdRsvd44 (s : State) : Host.Outcome State Fault Refusal :=
  .next (s.answer 0#32)

/-- WR_RSVD_44 is ignored (R240). -/
def execWrRsvd44 (_v : Word) (s : State) : Host.Outcome State Fault Refusal :=
  .next s

/-- RD_RSVD_45 reads 0 (R240). -/
def execRdRsvd45 (s : State) : Host.Outcome State Fault Refusal :=
  .next (s.answer 0#32)

/-- WR_RSVD_45 is ignored (R240). -/
def execWrRsvd45 (_v : Word) (s : State) : Host.Outcome State Fault Refusal :=
  .next s

/-- RD_RSVD_46 reads 0 (R240). -/
def execRdRsvd46 (s : State) : Host.Outcome State Fault Refusal :=
  .next (s.answer 0#32)

/-- WR_RSVD_46 is ignored (R240). -/
def execWrRsvd46 (_v : Word) (s : State) : Host.Outcome State Fault Refusal :=
  .next s

/-- RD_RSVD_47 reads 0 (R240). -/
def execRdRsvd47 (s : State) : Host.Outcome State Fault Refusal :=
  .next (s.answer 0#32)

/-- WR_RSVD_47 is ignored (R240). -/
def execWrRsvd47 (_v : Word) (s : State) : Host.Outcome State Fault Refusal :=
  .next s

/-- RD_RSVD_48 reads 0 (R240). -/
def execRdRsvd48 (s : State) : Host.Outcome State Fault Refusal :=
  .next (s.answer 0#32)

/-- WR_RSVD_48 is ignored (R240). -/
def execWrRsvd48 (_v : Word) (s : State) : Host.Outcome State Fault Refusal :=
  .next s

/-- RD_RSVD_49 reads 0 (R240). -/
def execRdRsvd49 (s : State) : Host.Outcome State Fault Refusal :=
  .next (s.answer 0#32)

/-- WR_RSVD_49 is ignored (R240). -/
def execWrRsvd49 (_v : Word) (s : State) : Host.Outcome State Fault Refusal :=
  .next s

/-- RD_RSVD_50 reads 0 (R240). -/
def execRdRsvd50 (s : State) : Host.Outcome State Fault Refusal :=
  .next (s.answer 0#32)

/-- WR_RSVD_50 is ignored (R240). -/
def execWrRsvd50 (_v : Word) (s : State) : Host.Outcome State Fault Refusal :=
  .next s

/-- RD_RSVD_51 reads 0 (R240). -/
def execRdRsvd51 (s : State) : Host.Outcome State Fault Refusal :=
  .next (s.answer 0#32)

/-- WR_RSVD_51 is ignored (R240). -/
def execWrRsvd51 (_v : Word) (s : State) : Host.Outcome State Fault Refusal :=
  .next s

/-- RD_RSVD_52 reads 0 (R240). -/
def execRdRsvd52 (s : State) : Host.Outcome State Fault Refusal :=
  .next (s.answer 0#32)

/-- WR_RSVD_52 is ignored (R240). -/
def execWrRsvd52 (_v : Word) (s : State) : Host.Outcome State Fault Refusal :=
  .next s

/-- RD_RSVD_53 reads 0 (R240). -/
def execRdRsvd53 (s : State) : Host.Outcome State Fault Refusal :=
  .next (s.answer 0#32)

/-- WR_RSVD_53 is ignored (R240). -/
def execWrRsvd53 (_v : Word) (s : State) : Host.Outcome State Fault Refusal :=
  .next s

/-- RD_RSVD_54 reads 0 (R240). -/
def execRdRsvd54 (s : State) : Host.Outcome State Fault Refusal :=
  .next (s.answer 0#32)

/-- WR_RSVD_54 is ignored (R240). -/
def execWrRsvd54 (_v : Word) (s : State) : Host.Outcome State Fault Refusal :=
  .next s

/-- RD_RSVD_55 reads 0 (R240). -/
def execRdRsvd55 (s : State) : Host.Outcome State Fault Refusal :=
  .next (s.answer 0#32)

/-- WR_RSVD_55 is ignored (R240). -/
def execWrRsvd55 (_v : Word) (s : State) : Host.Outcome State Fault Refusal :=
  .next s

/-- RD_RSVD_56 reads 0 (R240). -/
def execRdRsvd56 (s : State) : Host.Outcome State Fault Refusal :=
  .next (s.answer 0#32)

/-- WR_RSVD_56 is ignored (R240). -/
def execWrRsvd56 (_v : Word) (s : State) : Host.Outcome State Fault Refusal :=
  .next s

/-- RD_RSVD_57 reads 0 (R240). -/
def execRdRsvd57 (s : State) : Host.Outcome State Fault Refusal :=
  .next (s.answer 0#32)

/-- WR_RSVD_57 is ignored (R240). -/
def execWrRsvd57 (_v : Word) (s : State) : Host.Outcome State Fault Refusal :=
  .next s

/-- RD_RSVD_58 reads 0 (R240). -/
def execRdRsvd58 (s : State) : Host.Outcome State Fault Refusal :=
  .next (s.answer 0#32)

/-- WR_RSVD_58 is ignored (R240). -/
def execWrRsvd58 (_v : Word) (s : State) : Host.Outcome State Fault Refusal :=
  .next s

/-- RD_RSVD_59 reads 0 (R240). -/
def execRdRsvd59 (s : State) : Host.Outcome State Fault Refusal :=
  .next (s.answer 0#32)

/-- WR_RSVD_59 is ignored (R240). -/
def execWrRsvd59 (_v : Word) (s : State) : Host.Outcome State Fault Refusal :=
  .next s

/-- RD_RSVD_60 reads 0 (R240). -/
def execRdRsvd60 (s : State) : Host.Outcome State Fault Refusal :=
  .next (s.answer 0#32)

/-- WR_RSVD_60 is ignored (R240). -/
def execWrRsvd60 (_v : Word) (s : State) : Host.Outcome State Fault Refusal :=
  .next s

/-- RD_RSVD_61 reads 0 (R240). -/
def execRdRsvd61 (s : State) : Host.Outcome State Fault Refusal :=
  .next (s.answer 0#32)

/-- WR_RSVD_61 is ignored (R240). -/
def execWrRsvd61 (_v : Word) (s : State) : Host.Outcome State Fault Refusal :=
  .next s

/-- RD_RSVD_62 reads 0 (R240). -/
def execRdRsvd62 (s : State) : Host.Outcome State Fault Refusal :=
  .next (s.answer 0#32)

/-- WR_RSVD_62 is ignored (R240). -/
def execWrRsvd62 (_v : Word) (s : State) : Host.Outcome State Fault Refusal :=
  .next s

/-- RD_RSVD_63 reads 0 (R240). -/
def execRdRsvd63 (s : State) : Host.Outcome State Fault Refusal :=
  .next (s.answer 0#32)

/-- WR_RSVD_63 is ignored (R240). -/
def execWrRsvd63 (_v : Word) (s : State) : Host.Outcome State Fault Refusal :=
  .next s

end Sys2Proof.Machine
end

