-- ==== Sys2Proof/Machine/Sensors.lean ====
section
/-! DEFINITION. The sensor channels' operations (R117, R118, R121). -/

namespace Sys2Proof.Machine

/-- SENS_TICK0 (R121). -/
def execSensTick0 (s : State) : Host.Outcome State Fault Refusal :=
  .next (s.sensTick .door)

/-- SENS_STOP0 (R117). -/
def execSensStop0 (s : State) : Host.Outcome State Fault Refusal :=
  .next (s.putNxt (s.nxt.sensStop .door))

/-- SENS_START0 (R118; log 14). -/
def execSensStart0 (s : State) : Host.Outcome State Fault Refusal :=
  .next (s.sensStart .door)

/-- SENS_TICK1 (R121). -/
def execSensTick1 (s : State) : Host.Outcome State Fault Refusal :=
  .next (s.sensTick .proximity)

/-- SENS_STOP1 (R117). -/
def execSensStop1 (s : State) : Host.Outcome State Fault Refusal :=
  .next (s.putNxt (s.nxt.sensStop .proximity))

/-- SENS_START1 (R118; log 14). -/
def execSensStart1 (s : State) : Host.Outcome State Fault Refusal :=
  .next (s.sensStart .proximity)

/-- SENS_TICK2 (R121). -/
def execSensTick2 (s : State) : Host.Outcome State Fault Refusal :=
  .next (s.sensTick .exitButton)

/-- SENS_STOP2 (R117). -/
def execSensStop2 (s : State) : Host.Outcome State Fault Refusal :=
  .next (s.putNxt (s.nxt.sensStop .exitButton))

/-- SENS_START2 (R118; log 14). -/
def execSensStart2 (s : State) : Host.Outcome State Fault Refusal :=
  .next (s.sensStart .exitButton)

end Sys2Proof.Machine
end

