-- ==== Sys2Proof/Machine/Dispatch.lean ====
section
/-! DEFINITION. One arm per row of spec/opcode_table.json, each a direct call of its meaning. -/

namespace Sys2Proof.Machine

def exec (i : Instr) (s : State) : Host.Outcome State Fault Refusal :=
  match i with
  | .decW26 f => Sys2Proof.Machine.execDecW26 f s
  | .decW32 f => Sys2Proof.Machine.execDecW32 f s
  | .decW34 f => Sys2Proof.Machine.execDecW34 f s
  | .decW64 f => Sys2Proof.Machine.execDecW64 f s
  | .frameUnsupported len bits => Sys2Proof.Machine.execFrameUnsupported len bits s
  | .nop => Sys2Proof.Machine.execNop s
  | .lock => Sys2Proof.Machine.execLock s
  | .unlock => Sys2Proof.Machine.execUnlock s
  | .cmdRsvd w => Sys2Proof.Machine.execCmdRsvd w s
  | .rdId => Sys2Proof.Machine.execRdId s
  | .wrId v => Sys2Proof.Machine.execWrId v s
  | .rdCtrl => Sys2Proof.Machine.execRdCtrl s
  | .wrCtrl v => Sys2Proof.Machine.execWrCtrl v s
  | .rdStatus => Sys2Proof.Machine.execRdStatus s
  | .wrStatus v => Sys2Proof.Machine.execWrStatus v s
  | .rdIrqEn => Sys2Proof.Machine.execRdIrqEn s
  | .wrIrqEn v => Sys2Proof.Machine.execWrIrqEn v s
  | .rdCmd => Sys2Proof.Machine.execRdCmd s
  | .wrCmd v => Sys2Proof.Machine.execWrCmd v s
  | .rdSilence => Sys2Proof.Machine.execRdSilence s
  | .wrSilence v => Sys2Proof.Machine.execWrSilence v s
  | .rdPulse => Sys2Proof.Machine.execRdPulse s
  | .wrPulse v => Sys2Proof.Machine.execWrPulse v s
  | .rdRelock => Sys2Proof.Machine.execRdRelock s
  | .wrRelock v => Sys2Proof.Machine.execWrRelock v s
  | .rdDebounce0 => Sys2Proof.Machine.execRdDebounce0 s
  | .wrDebounce0 v => Sys2Proof.Machine.execWrDebounce0 v s
  | .rdDebounce1 => Sys2Proof.Machine.execRdDebounce1 s
  | .wrDebounce1 v => Sys2Proof.Machine.execWrDebounce1 v s
  | .rdDebounce2 => Sys2Proof.Machine.execRdDebounce2 s
  | .wrDebounce2 v => Sys2Proof.Machine.execWrDebounce2 v s
  | .rdCardLo => Sys2Proof.Machine.execRdCardLo s
  | .wrCardLo v => Sys2Proof.Machine.execWrCardLo v s
  | .rdCardHi => Sys2Proof.Machine.execRdCardHi s
  | .wrCardHi v => Sys2Proof.Machine.execWrCardHi v s
  | .rdCardInfo => Sys2Proof.Machine.execRdCardInfo s
  | .wrCardInfo v => Sys2Proof.Machine.execWrCardInfo v s
  | .rdCardNum => Sys2Proof.Machine.execRdCardNum s
  | .wrCardNum v => Sys2Proof.Machine.execWrCardNum v s
  | .rdErrLo => Sys2Proof.Machine.execRdErrLo s
  | .wrErrLo v => Sys2Proof.Machine.execWrErrLo v s
  | .rdErrHi => Sys2Proof.Machine.execRdErrHi s
  | .wrErrHi v => Sys2Proof.Machine.execWrErrHi v s
  | .rdErrLen => Sys2Proof.Machine.execRdErrLen s
  | .wrErrLen v => Sys2Proof.Machine.execWrErrLen v s
  | .rdRelockRem => Sys2Proof.Machine.execRdRelockRem s
  | .wrRelockRem v => Sys2Proof.Machine.execWrRelockRem v s
  | .rdRsvd11 => Sys2Proof.Machine.execRdRsvd11 s
  | .wrRsvd11 v => Sys2Proof.Machine.execWrRsvd11 v s
  | .rdRsvd20 => Sys2Proof.Machine.execRdRsvd20 s
  | .wrRsvd20 v => Sys2Proof.Machine.execWrRsvd20 v s
  | .rdRsvd21 => Sys2Proof.Machine.execRdRsvd21 s
  | .wrRsvd21 v => Sys2Proof.Machine.execWrRsvd21 v s
  | .rdRsvd22 => Sys2Proof.Machine.execRdRsvd22 s
  | .wrRsvd22 v => Sys2Proof.Machine.execWrRsvd22 v s
  | .rdRsvd23 => Sys2Proof.Machine.execRdRsvd23 s
  | .wrRsvd23 v => Sys2Proof.Machine.execWrRsvd23 v s
  | .rdRsvd24 => Sys2Proof.Machine.execRdRsvd24 s
  | .wrRsvd24 v => Sys2Proof.Machine.execWrRsvd24 v s
  | .rdRsvd25 => Sys2Proof.Machine.execRdRsvd25 s
  | .wrRsvd25 v => Sys2Proof.Machine.execWrRsvd25 v s
  | .rdRsvd26 => Sys2Proof.Machine.execRdRsvd26 s
  | .wrRsvd26 v => Sys2Proof.Machine.execWrRsvd26 v s
  | .rdRsvd27 => Sys2Proof.Machine.execRdRsvd27 s
  | .wrRsvd27 v => Sys2Proof.Machine.execWrRsvd27 v s
  | .rdRsvd28 => Sys2Proof.Machine.execRdRsvd28 s
  | .wrRsvd28 v => Sys2Proof.Machine.execWrRsvd28 v s
  | .rdRsvd29 => Sys2Proof.Machine.execRdRsvd29 s
  | .wrRsvd29 v => Sys2Proof.Machine.execWrRsvd29 v s
  | .rdRsvd30 => Sys2Proof.Machine.execRdRsvd30 s
  | .wrRsvd30 v => Sys2Proof.Machine.execWrRsvd30 v s
  | .rdRsvd31 => Sys2Proof.Machine.execRdRsvd31 s
  | .wrRsvd31 v => Sys2Proof.Machine.execWrRsvd31 v s
  | .rdRsvd32 => Sys2Proof.Machine.execRdRsvd32 s
  | .wrRsvd32 v => Sys2Proof.Machine.execWrRsvd32 v s
  | .rdRsvd33 => Sys2Proof.Machine.execRdRsvd33 s
  | .wrRsvd33 v => Sys2Proof.Machine.execWrRsvd33 v s
  | .rdRsvd34 => Sys2Proof.Machine.execRdRsvd34 s
  | .wrRsvd34 v => Sys2Proof.Machine.execWrRsvd34 v s
  | .rdRsvd35 => Sys2Proof.Machine.execRdRsvd35 s
  | .wrRsvd35 v => Sys2Proof.Machine.execWrRsvd35 v s
  | .rdRsvd36 => Sys2Proof.Machine.execRdRsvd36 s
  | .wrRsvd36 v => Sys2Proof.Machine.execWrRsvd36 v s
  | .rdRsvd37 => Sys2Proof.Machine.execRdRsvd37 s
  | .wrRsvd37 v => Sys2Proof.Machine.execWrRsvd37 v s
  | .rdRsvd38 => Sys2Proof.Machine.execRdRsvd38 s
  | .wrRsvd38 v => Sys2Proof.Machine.execWrRsvd38 v s
  | .rdRsvd39 => Sys2Proof.Machine.execRdRsvd39 s
  | .wrRsvd39 v => Sys2Proof.Machine.execWrRsvd39 v s
  | .rdRsvd40 => Sys2Proof.Machine.execRdRsvd40 s
  | .wrRsvd40 v => Sys2Proof.Machine.execWrRsvd40 v s
  | .rdRsvd41 => Sys2Proof.Machine.execRdRsvd41 s
  | .wrRsvd41 v => Sys2Proof.Machine.execWrRsvd41 v s
  | .rdRsvd42 => Sys2Proof.Machine.execRdRsvd42 s
  | .wrRsvd42 v => Sys2Proof.Machine.execWrRsvd42 v s
  | .rdRsvd43 => Sys2Proof.Machine.execRdRsvd43 s
  | .wrRsvd43 v => Sys2Proof.Machine.execWrRsvd43 v s
  | .rdRsvd44 => Sys2Proof.Machine.execRdRsvd44 s
  | .wrRsvd44 v => Sys2Proof.Machine.execWrRsvd44 v s
  | .rdRsvd45 => Sys2Proof.Machine.execRdRsvd45 s
  | .wrRsvd45 v => Sys2Proof.Machine.execWrRsvd45 v s
  | .rdRsvd46 => Sys2Proof.Machine.execRdRsvd46 s
  | .wrRsvd46 v => Sys2Proof.Machine.execWrRsvd46 v s
  | .rdRsvd47 => Sys2Proof.Machine.execRdRsvd47 s
  | .wrRsvd47 v => Sys2Proof.Machine.execWrRsvd47 v s
  | .rdRsvd48 => Sys2Proof.Machine.execRdRsvd48 s
  | .wrRsvd48 v => Sys2Proof.Machine.execWrRsvd48 v s
  | .rdRsvd49 => Sys2Proof.Machine.execRdRsvd49 s
  | .wrRsvd49 v => Sys2Proof.Machine.execWrRsvd49 v s
  | .rdRsvd50 => Sys2Proof.Machine.execRdRsvd50 s
  | .wrRsvd50 v => Sys2Proof.Machine.execWrRsvd50 v s
  | .rdRsvd51 => Sys2Proof.Machine.execRdRsvd51 s
  | .wrRsvd51 v => Sys2Proof.Machine.execWrRsvd51 v s
  | .rdRsvd52 => Sys2Proof.Machine.execRdRsvd52 s
  | .wrRsvd52 v => Sys2Proof.Machine.execWrRsvd52 v s
  | .rdRsvd53 => Sys2Proof.Machine.execRdRsvd53 s
  | .wrRsvd53 v => Sys2Proof.Machine.execWrRsvd53 v s
  | .rdRsvd54 => Sys2Proof.Machine.execRdRsvd54 s
  | .wrRsvd54 v => Sys2Proof.Machine.execWrRsvd54 v s
  | .rdRsvd55 => Sys2Proof.Machine.execRdRsvd55 s
  | .wrRsvd55 v => Sys2Proof.Machine.execWrRsvd55 v s
  | .rdRsvd56 => Sys2Proof.Machine.execRdRsvd56 s
  | .wrRsvd56 v => Sys2Proof.Machine.execWrRsvd56 v s
  | .rdRsvd57 => Sys2Proof.Machine.execRdRsvd57 s
  | .wrRsvd57 v => Sys2Proof.Machine.execWrRsvd57 v s
  | .rdRsvd58 => Sys2Proof.Machine.execRdRsvd58 s
  | .wrRsvd58 v => Sys2Proof.Machine.execWrRsvd58 v s
  | .rdRsvd59 => Sys2Proof.Machine.execRdRsvd59 s
  | .wrRsvd59 v => Sys2Proof.Machine.execWrRsvd59 v s
  | .rdRsvd60 => Sys2Proof.Machine.execRdRsvd60 s
  | .wrRsvd60 v => Sys2Proof.Machine.execWrRsvd60 v s
  | .rdRsvd61 => Sys2Proof.Machine.execRdRsvd61 s
  | .wrRsvd61 v => Sys2Proof.Machine.execWrRsvd61 v s
  | .rdRsvd62 => Sys2Proof.Machine.execRdRsvd62 s
  | .wrRsvd62 v => Sys2Proof.Machine.execWrRsvd62 v s
  | .rdRsvd63 => Sys2Proof.Machine.execRdRsvd63 s
  | .wrRsvd63 v => Sys2Proof.Machine.execWrRsvd63 v s
  | .wdTick => Sys2Proof.Machine.execWdTick s
  | .close => Sys2Proof.Machine.execClose s
  | .wdStop => Sys2Proof.Machine.execWdStop s
  | .wdStart => Sys2Proof.Machine.execWdStart s
  | .sensTick0 => Sys2Proof.Machine.execSensTick0 s
  | .sensStop0 => Sys2Proof.Machine.execSensStop0 s
  | .sensStart0 => Sys2Proof.Machine.execSensStart0 s
  | .sensTick1 => Sys2Proof.Machine.execSensTick1 s
  | .sensStop1 => Sys2Proof.Machine.execSensStop1 s
  | .sensStart1 => Sys2Proof.Machine.execSensStart1 s
  | .sensTick2 => Sys2Proof.Machine.execSensTick2 s
  | .sensStop2 => Sys2Proof.Machine.execSensStop2 s
  | .sensStart2 => Sys2Proof.Machine.execSensStart2 s
  | .actCycle => Sys2Proof.Machine.execActCycle s
  | .relockFire => Sys2Proof.Machine.execRelockFire s

end Sys2Proof.Machine
end

