-- ==== Sys2Proof/Machine/Cycle.lean ====
section
/-! DEFINITION. The block's whole cycle (R242): the transaction's instruction, then the units, over one
start-of-cycle state; and placing an instruction where the next cycle runs it. -/

namespace Sys2Proof.Machine

/-- The refusal of an access the port cannot express (R64, R65). -/
def refusalOf : PortReject → Refusal
  | .accessWidth => .accessWidth
  | .misaligned => .misaligned

/-- The instruction the cycle's transaction decodes to: none without a transaction (R61, R84, R98). -/
def State.fetchBus (s : State) : Except Refusal (Option Instr) :=
  match s.inputs.bus with
  | [] => .ok none
  | [r] =>
      match r.toTxn with
      | .ok w => .ok (some (decodeTxn w))
      | .error e => .error (refusalOf e)
  | _ :: _ :: _ => .error .busConflict

/-- The units' operations of a cycle, in the order of R242. Each has its own running condition. -/
def unitOps : List Instr := [.wdTick, .sensTick0, .sensTick1, .sensTick2, .actCycle]

/-- Run instructions one after another within a cycle. Each reads `cur`, which none of them writes, so
no instruction sees another's writes (R14; log 1). -/
def runAll : List Instr → State → Host.Outcome State Fault Refusal
  | [], s => .next s
  | i :: is, s =>
      match exec i s with
      | .next t => runAll is t
      | .fault r => .fault r
      | .refused r => .refused r

/-- The end of a cycle, if it came to its end. -/
def commitAll (o : Host.Outcome State Fault Refusal) : Host.Outcome State Fault Refusal :=
  match o with
  | .next t => .next t.commit
  | .fault r => .fault r
  | .refused r => .refused r

/-- A cycle with RST = 0 whose transaction decodes to `i?` (R242). -/
def State.normalCycle (s : State) (i? : Option Instr) : Host.Outcome State Fault Refusal :=
  commitAll (runAll (i?.toList ++ unitOps) s.beginCycle)

/-- One cycle: reset when RST = 1 (R290), else the step of R242. -/
def State.runCycle (s : State) : Host.Outcome State Fault Refusal :=
  if s.inputs.rst then .next s.resetCycle
  else
    match s.fetchBus with
    | .ok i? => s.normalCycle i?
    | .error r => .refused r

/-- The stimulus with its first cycle replaced by one that presents the transaction word `w` and runs
normally; with no stimulus, a cycle of idle levels (R16; log 9). -/
def stimWithTxn (stim : List Inputs) (w : TxnWord) : List Inputs :=
  match stim with
  | [] => [{ Inputs.idle with bus := [.txn w] }]
  | p :: ps => { p with rst := false, bus := [.txn w] } :: ps

/-- A running decoder that holds an open frame whose silence has run out: its next tick closes it
(R145; log 9). -/
def Decoder.heldFrame (len : FrameCount) (v : FrameReg) : Decoder :=
  { primed := true, prev0 := true, prev1 := true, count := len, shift := v, srem := 0#32 }

/-- The state in which the very next cycle closes the frame (log 9). -/
def State.withFrame (s : State) (len : FrameCount) (v : FrameReg) : State :=
  let b := { s.cur with ctrl := s.cur.ctrl ||| 1#32, wd := Decoder.heldFrame len v }
  { s with cur := b, nxt := b, stim := Inputs.idle :: s.stim.tail }

/-- Place the instruction of `nbits` bits where the next cycle runs it: a transaction word on the bus,
or an open frame about to close (logs 9 and 10). -/
def State.placeWord (s : State) (nbits w : Nat) : State :=
  if nbits = 39 ∨ nbits = 40 then { s with stim := stimWithTxn s.stim (BitVec.ofNat 39 w) }
  else s.withFrame (BitVec.ofNat 8 (min nbits 255)) (BitVec.ofNat 64 w)

end Sys2Proof.Machine
end

