-- ==== Sys2Proof/Machine/Step.lean ====
section
/-! DEFINITION. One step of the machine: one cycle of CLK (R8). -/

namespace Sys2Proof.Machine

/-- One cycle of CLK (R8, R242, R290). -/
def step (s : State) : Host.Outcome State Fault Refusal := s.runCycle

/-- The state whose next step runs the instruction of `nbits` bits `w` (logs 9 and 10). -/
def State.withFetchWord (s : State) (nbits w : Nat) : State := s.placeWord nbits w

end Sys2Proof.Machine
end

