-- ==== Sys2Proof/Laws/PerInstr.lean ====
section
/-! SUPPORT. Statements for all instructions, made per instruction. -/

/-- An instruction has no encoding exactly when it is one of the block's internal operations (R80). -/
def Sys2Proof.Laws.EncodedOrInternal.Statement (i : Sys2Proof.Instr) : Prop :=
  Sys2Proof.encode i = none ↔ i.internal = true

namespace Sys2Proof.Laws.EncodedOrInternal

theorem decW26 (f : BitVec 26) : Statement (.decW26 f) := ⟨nofun, nofun⟩
theorem decW32 (f : BitVec 32) : Statement (.decW32 f) := ⟨nofun, nofun⟩
theorem decW34 (f : BitVec 34) : Statement (.decW34 f) := ⟨nofun, nofun⟩
theorem decW64 (f : BitVec 64) : Statement (.decW64 f) := ⟨nofun, nofun⟩
theorem frameUnsupported (len : FrameCount) (bits : FrameReg) : Statement (.frameUnsupported len bits) := ⟨nofun, nofun⟩
theorem nop : Statement (.nop) := ⟨nofun, nofun⟩
theorem lock : Statement (.lock) := ⟨nofun, nofun⟩
theorem unlock : Statement (.unlock) := ⟨nofun, nofun⟩
theorem cmdRsvd (w : Word) : Statement (.cmdRsvd w) := ⟨nofun, nofun⟩
theorem rdId : Statement (.rdId) := ⟨nofun, nofun⟩
theorem wrId (v : Word) : Statement (.wrId v) := ⟨nofun, nofun⟩
theorem rdCtrl : Statement (.rdCtrl) := ⟨nofun, nofun⟩
theorem wrCtrl (v : Word) : Statement (.wrCtrl v) := ⟨nofun, nofun⟩
theorem rdStatus : Statement (.rdStatus) := ⟨nofun, nofun⟩
theorem wrStatus (v : Word) : Statement (.wrStatus v) := ⟨nofun, nofun⟩
theorem rdIrqEn : Statement (.rdIrqEn) := ⟨nofun, nofun⟩
theorem wrIrqEn (v : Word) : Statement (.wrIrqEn v) := ⟨nofun, nofun⟩
theorem rdCmd : Statement (.rdCmd) := ⟨nofun, nofun⟩
theorem wrCmd (v : Word) : Statement (.wrCmd v) := ⟨nofun, nofun⟩
theorem rdSilence : Statement (.rdSilence) := ⟨nofun, nofun⟩
theorem wrSilence (v : Word) : Statement (.wrSilence v) := ⟨nofun, nofun⟩
theorem rdPulse : Statement (.rdPulse) := ⟨nofun, nofun⟩
theorem wrPulse (v : Word) : Statement (.wrPulse v) := ⟨nofun, nofun⟩
theorem rdRelock : Statement (.rdRelock) := ⟨nofun, nofun⟩
theorem wrRelock (v : Word) : Statement (.wrRelock v) := ⟨nofun, nofun⟩
theorem rdDebounce0 : Statement (.rdDebounce0) := ⟨nofun, nofun⟩
theorem wrDebounce0 (v : Word) : Statement (.wrDebounce0 v) := ⟨nofun, nofun⟩
theorem rdDebounce1 : Statement (.rdDebounce1) := ⟨nofun, nofun⟩
theorem wrDebounce1 (v : Word) : Statement (.wrDebounce1 v) := ⟨nofun, nofun⟩
theorem rdDebounce2 : Statement (.rdDebounce2) := ⟨nofun, nofun⟩
theorem wrDebounce2 (v : Word) : Statement (.wrDebounce2 v) := ⟨nofun, nofun⟩
theorem rdCardLo : Statement (.rdCardLo) := ⟨nofun, nofun⟩
theorem wrCardLo (v : Word) : Statement (.wrCardLo v) := ⟨nofun, nofun⟩
theorem rdCardHi : Statement (.rdCardHi) := ⟨nofun, nofun⟩
theorem wrCardHi (v : Word) : Statement (.wrCardHi v) := ⟨nofun, nofun⟩
theorem rdCardInfo : Statement (.rdCardInfo) := ⟨nofun, nofun⟩
theorem wrCardInfo (v : Word) : Statement (.wrCardInfo v) := ⟨nofun, nofun⟩
theorem rdCardNum : Statement (.rdCardNum) := ⟨nofun, nofun⟩
theorem wrCardNum (v : Word) : Statement (.wrCardNum v) := ⟨nofun, nofun⟩
theorem rdErrLo : Statement (.rdErrLo) := ⟨nofun, nofun⟩
theorem wrErrLo (v : Word) : Statement (.wrErrLo v) := ⟨nofun, nofun⟩
theorem rdErrHi : Statement (.rdErrHi) := ⟨nofun, nofun⟩
theorem wrErrHi (v : Word) : Statement (.wrErrHi v) := ⟨nofun, nofun⟩
theorem rdErrLen : Statement (.rdErrLen) := ⟨nofun, nofun⟩
theorem wrErrLen (v : Word) : Statement (.wrErrLen v) := ⟨nofun, nofun⟩
theorem rdRelockRem : Statement (.rdRelockRem) := ⟨nofun, nofun⟩
theorem wrRelockRem (v : Word) : Statement (.wrRelockRem v) := ⟨nofun, nofun⟩
theorem rdRsvd11 : Statement (.rdRsvd11) := ⟨nofun, nofun⟩
theorem wrRsvd11 (v : Word) : Statement (.wrRsvd11 v) := ⟨nofun, nofun⟩
theorem rdRsvd20 : Statement (.rdRsvd20) := ⟨nofun, nofun⟩
theorem wrRsvd20 (v : Word) : Statement (.wrRsvd20 v) := ⟨nofun, nofun⟩
theorem rdRsvd21 : Statement (.rdRsvd21) := ⟨nofun, nofun⟩
theorem wrRsvd21 (v : Word) : Statement (.wrRsvd21 v) := ⟨nofun, nofun⟩
theorem rdRsvd22 : Statement (.rdRsvd22) := ⟨nofun, nofun⟩
theorem wrRsvd22 (v : Word) : Statement (.wrRsvd22 v) := ⟨nofun, nofun⟩
theorem rdRsvd23 : Statement (.rdRsvd23) := ⟨nofun, nofun⟩
theorem wrRsvd23 (v : Word) : Statement (.wrRsvd23 v) := ⟨nofun, nofun⟩
theorem rdRsvd24 : Statement (.rdRsvd24) := ⟨nofun, nofun⟩
theorem wrRsvd24 (v : Word) : Statement (.wrRsvd24 v) := ⟨nofun, nofun⟩
theorem rdRsvd25 : Statement (.rdRsvd25) := ⟨nofun, nofun⟩
theorem wrRsvd25 (v : Word) : Statement (.wrRsvd25 v) := ⟨nofun, nofun⟩
theorem rdRsvd26 : Statement (.rdRsvd26) := ⟨nofun, nofun⟩
theorem wrRsvd26 (v : Word) : Statement (.wrRsvd26 v) := ⟨nofun, nofun⟩
theorem rdRsvd27 : Statement (.rdRsvd27) := ⟨nofun, nofun⟩
theorem wrRsvd27 (v : Word) : Statement (.wrRsvd27 v) := ⟨nofun, nofun⟩
theorem rdRsvd28 : Statement (.rdRsvd28) := ⟨nofun, nofun⟩
theorem wrRsvd28 (v : Word) : Statement (.wrRsvd28 v) := ⟨nofun, nofun⟩
theorem rdRsvd29 : Statement (.rdRsvd29) := ⟨nofun, nofun⟩
theorem wrRsvd29 (v : Word) : Statement (.wrRsvd29 v) := ⟨nofun, nofun⟩
theorem rdRsvd30 : Statement (.rdRsvd30) := ⟨nofun, nofun⟩
theorem wrRsvd30 (v : Word) : Statement (.wrRsvd30 v) := ⟨nofun, nofun⟩
theorem rdRsvd31 : Statement (.rdRsvd31) := ⟨nofun, nofun⟩
theorem wrRsvd31 (v : Word) : Statement (.wrRsvd31 v) := ⟨nofun, nofun⟩
theorem rdRsvd32 : Statement (.rdRsvd32) := ⟨nofun, nofun⟩
theorem wrRsvd32 (v : Word) : Statement (.wrRsvd32 v) := ⟨nofun, nofun⟩
theorem rdRsvd33 : Statement (.rdRsvd33) := ⟨nofun, nofun⟩
theorem wrRsvd33 (v : Word) : Statement (.wrRsvd33 v) := ⟨nofun, nofun⟩
theorem rdRsvd34 : Statement (.rdRsvd34) := ⟨nofun, nofun⟩
theorem wrRsvd34 (v : Word) : Statement (.wrRsvd34 v) := ⟨nofun, nofun⟩
theorem rdRsvd35 : Statement (.rdRsvd35) := ⟨nofun, nofun⟩
theorem wrRsvd35 (v : Word) : Statement (.wrRsvd35 v) := ⟨nofun, nofun⟩
theorem rdRsvd36 : Statement (.rdRsvd36) := ⟨nofun, nofun⟩
theorem wrRsvd36 (v : Word) : Statement (.wrRsvd36 v) := ⟨nofun, nofun⟩
theorem rdRsvd37 : Statement (.rdRsvd37) := ⟨nofun, nofun⟩
theorem wrRsvd37 (v : Word) : Statement (.wrRsvd37 v) := ⟨nofun, nofun⟩
theorem rdRsvd38 : Statement (.rdRsvd38) := ⟨nofun, nofun⟩
theorem wrRsvd38 (v : Word) : Statement (.wrRsvd38 v) := ⟨nofun, nofun⟩
theorem rdRsvd39 : Statement (.rdRsvd39) := ⟨nofun, nofun⟩
theorem wrRsvd39 (v : Word) : Statement (.wrRsvd39 v) := ⟨nofun, nofun⟩
theorem rdRsvd40 : Statement (.rdRsvd40) := ⟨nofun, nofun⟩
theorem wrRsvd40 (v : Word) : Statement (.wrRsvd40 v) := ⟨nofun, nofun⟩
theorem rdRsvd41 : Statement (.rdRsvd41) := ⟨nofun, nofun⟩
theorem wrRsvd41 (v : Word) : Statement (.wrRsvd41 v) := ⟨nofun, nofun⟩
theorem rdRsvd42 : Statement (.rdRsvd42) := ⟨nofun, nofun⟩
theorem wrRsvd42 (v : Word) : Statement (.wrRsvd42 v) := ⟨nofun, nofun⟩
theorem rdRsvd43 : Statement (.rdRsvd43) := ⟨nofun, nofun⟩
theorem wrRsvd43 (v : Word) : Statement (.wrRsvd43 v) := ⟨nofun, nofun⟩
theorem rdRsvd44 : Statement (.rdRsvd44) := ⟨nofun, nofun⟩
theorem wrRsvd44 (v : Word) : Statement (.wrRsvd44 v) := ⟨nofun, nofun⟩
theorem rdRsvd45 : Statement (.rdRsvd45) := ⟨nofun, nofun⟩
theorem wrRsvd45 (v : Word) : Statement (.wrRsvd45 v) := ⟨nofun, nofun⟩
theorem rdRsvd46 : Statement (.rdRsvd46) := ⟨nofun, nofun⟩
theorem wrRsvd46 (v : Word) : Statement (.wrRsvd46 v) := ⟨nofun, nofun⟩
theorem rdRsvd47 : Statement (.rdRsvd47) := ⟨nofun, nofun⟩
theorem wrRsvd47 (v : Word) : Statement (.wrRsvd47 v) := ⟨nofun, nofun⟩
theorem rdRsvd48 : Statement (.rdRsvd48) := ⟨nofun, nofun⟩
theorem wrRsvd48 (v : Word) : Statement (.wrRsvd48 v) := ⟨nofun, nofun⟩
theorem rdRsvd49 : Statement (.rdRsvd49) := ⟨nofun, nofun⟩
theorem wrRsvd49 (v : Word) : Statement (.wrRsvd49 v) := ⟨nofun, nofun⟩
theorem rdRsvd50 : Statement (.rdRsvd50) := ⟨nofun, nofun⟩
theorem wrRsvd50 (v : Word) : Statement (.wrRsvd50 v) := ⟨nofun, nofun⟩
theorem rdRsvd51 : Statement (.rdRsvd51) := ⟨nofun, nofun⟩
theorem wrRsvd51 (v : Word) : Statement (.wrRsvd51 v) := ⟨nofun, nofun⟩
theorem rdRsvd52 : Statement (.rdRsvd52) := ⟨nofun, nofun⟩
theorem wrRsvd52 (v : Word) : Statement (.wrRsvd52 v) := ⟨nofun, nofun⟩
theorem rdRsvd53 : Statement (.rdRsvd53) := ⟨nofun, nofun⟩
theorem wrRsvd53 (v : Word) : Statement (.wrRsvd53 v) := ⟨nofun, nofun⟩
theorem rdRsvd54 : Statement (.rdRsvd54) := ⟨nofun, nofun⟩
theorem wrRsvd54 (v : Word) : Statement (.wrRsvd54 v) := ⟨nofun, nofun⟩
theorem rdRsvd55 : Statement (.rdRsvd55) := ⟨nofun, nofun⟩
theorem wrRsvd55 (v : Word) : Statement (.wrRsvd55 v) := ⟨nofun, nofun⟩
theorem rdRsvd56 : Statement (.rdRsvd56) := ⟨nofun, nofun⟩
theorem wrRsvd56 (v : Word) : Statement (.wrRsvd56 v) := ⟨nofun, nofun⟩
theorem rdRsvd57 : Statement (.rdRsvd57) := ⟨nofun, nofun⟩
theorem wrRsvd57 (v : Word) : Statement (.wrRsvd57 v) := ⟨nofun, nofun⟩
theorem rdRsvd58 : Statement (.rdRsvd58) := ⟨nofun, nofun⟩
theorem wrRsvd58 (v : Word) : Statement (.wrRsvd58 v) := ⟨nofun, nofun⟩
theorem rdRsvd59 : Statement (.rdRsvd59) := ⟨nofun, nofun⟩
theorem wrRsvd59 (v : Word) : Statement (.wrRsvd59 v) := ⟨nofun, nofun⟩
theorem rdRsvd60 : Statement (.rdRsvd60) := ⟨nofun, nofun⟩
theorem wrRsvd60 (v : Word) : Statement (.wrRsvd60 v) := ⟨nofun, nofun⟩
theorem rdRsvd61 : Statement (.rdRsvd61) := ⟨nofun, nofun⟩
theorem wrRsvd61 (v : Word) : Statement (.wrRsvd61 v) := ⟨nofun, nofun⟩
theorem rdRsvd62 : Statement (.rdRsvd62) := ⟨nofun, nofun⟩
theorem wrRsvd62 (v : Word) : Statement (.wrRsvd62 v) := ⟨nofun, nofun⟩
theorem rdRsvd63 : Statement (.rdRsvd63) := ⟨nofun, nofun⟩
theorem wrRsvd63 (v : Word) : Statement (.wrRsvd63 v) := ⟨nofun, nofun⟩
theorem wdTick : Statement (.wdTick) := ⟨fun _ => rfl, fun _ => rfl⟩
theorem close : Statement (.close) := ⟨fun _ => rfl, fun _ => rfl⟩
theorem wdStop : Statement (.wdStop) := ⟨fun _ => rfl, fun _ => rfl⟩
theorem wdStart : Statement (.wdStart) := ⟨fun _ => rfl, fun _ => rfl⟩
theorem sensTick0 : Statement (.sensTick0) := ⟨fun _ => rfl, fun _ => rfl⟩
theorem sensStop0 : Statement (.sensStop0) := ⟨fun _ => rfl, fun _ => rfl⟩
theorem sensStart0 : Statement (.sensStart0) := ⟨fun _ => rfl, fun _ => rfl⟩
theorem sensTick1 : Statement (.sensTick1) := ⟨fun _ => rfl, fun _ => rfl⟩
theorem sensStop1 : Statement (.sensStop1) := ⟨fun _ => rfl, fun _ => rfl⟩
theorem sensStart1 : Statement (.sensStart1) := ⟨fun _ => rfl, fun _ => rfl⟩
theorem sensTick2 : Statement (.sensTick2) := ⟨fun _ => rfl, fun _ => rfl⟩
theorem sensStop2 : Statement (.sensStop2) := ⟨fun _ => rfl, fun _ => rfl⟩
theorem sensStart2 : Statement (.sensStart2) := ⟨fun _ => rfl, fun _ => rfl⟩
theorem actCycle : Statement (.actCycle) := ⟨fun _ => rfl, fun _ => rfl⟩
theorem relockFire : Statement (.relockFire) := ⟨fun _ => rfl, fun _ => rfl⟩

end Sys2Proof.Laws.EncodedOrInternal
end

