-- ==== Sys2Proof/Machine/Stimulus.lean ====
section
/-! DEFINITION. The stimulus notation of R16, the assembler's pseudo-instructions of R99, and the host's
boot and shutdown sequences of R295 and R296, as lists of cycle inputs. No step reads anything of this
file: it says what a host may place in `State.stim` (log 21). -/

namespace Sys2Proof.Machine

/-- One line of the notation (R16). `w`, `r` and their suffixes `(TICK=0)` and `(RST)`: `W` and `R` of a
word index; `t` and `tick0`: T and TICK0; `bit`: B0 and B1; `bb`: BB; `bits`: BITS; `rst`: RST;
`s`: S; `f`: F=. -/
inductive Line where
  | w (i : RegIndex) (v : Word)
  | r (i : RegIndex)
  | wNoTick (i : RegIndex) (v : Word)
  | rNoTick (i : RegIndex)
  | wRst (i : RegIndex) (v : Word)
  | rRst (i : RegIndex)
  | t (n : Nat)
  | tick0 (n : Nat)
  | bit (b : Bool)
  | bb
  | bits (l : List Bool)
  | rst
  | s (k : Chan) (level : Bool)
  | f (level : Bool)
deriving DecidableEq, Repr

/-- A cycle with one transaction word. -/
def withWord (p : Inputs) (w : TxnWord) : Inputs := { p with bus := [.txn w] }

/-- The two cycles of one Wiegand bit: its line held at 0 and then at 1 (R16, R81). -/
def bitCycles (p : Inputs) (b : Bool) : List Inputs := [{ p with d0 := b, d1 := !b }, p]

/-- Set a sensor level (R16). -/
def putSens (p : Inputs) (k : Chan) (level : Bool) : Inputs :=
  match k with
  | .door => { p with sens0 := level }
  | .proximity => { p with sens1 := level }
  | .exitButton => { p with sens2 := level }

/-- The cycles of a line over the standing levels `p`. -/
def Line.cycles (p : Inputs) : Line → List Inputs
  | .w i v => [withWord p (writeWord i v)]
  | .r i => [withWord p (readWord i)]
  | .wNoTick i v => [{ withWord p (writeWord i v) with tick := false }]
  | .rNoTick i => [{ withWord p (readWord i) with tick := false }]
  | .wRst i v => [{ withWord p (writeWord i v) with rst := true }]
  | .rRst i => [{ withWord p (readWord i) with rst := true }]
  | .t n => List.replicate n p
  | .tick0 n => List.replicate n { p with tick := false }
  | .bit b => bitCycles p b
  | .bb => [{ p with d0 := false, d1 := false }, p]
  | .bits l => l.flatMap (bitCycles p)
  | .rst => [{ p with rst := true }]
  | .s _ _ => []
  | .f _ => []

/-- The standing levels after a line: only S and F= change them. -/
def Line.levels (p : Inputs) : Line → Inputs
  | .s k level => putSens p k level
  | .f level => { p with fault := level }
  | .w _ _ | .r _ | .wNoTick _ _ | .rNoTick _ | .wRst _ _ | .rRst _ | .t _ | .tick0 _ | .bit _ | .bb
    | .bits _ | .rst => p

/-- The cycles of a program (R16), from the idle levels on. -/
def programCycles : Inputs → List Line → List Inputs
  | _, [] => []
  | p, l :: ls => l.cycles p ++ programCycles (l.levels p) ls

/-! ### Pseudo-instructions (R99) -/

/-- `NOP`, `LOCK`, `UNLOCK`, `ACK m` and `CFG v`, each one write. -/
def asmNop : Line := .w 4#6 0#32
def asmLock : Line := .w 4#6 1#32
def asmUnlock : Line := .w 4#6 2#32
def asmAck (m : Word) : Line := .w 2#6 m
def asmCfg (v : Word) : Line := .w 1#6 v

/-- `START_WD`: `R CTRL`, then `W CTRL (value OR 0x1)`, where `value` is what the read returned. -/
def asmStartWd (value : Word) : List Line := [.r 1#6, .w 1#6 (value ||| 1#32)]

/-- `STOP_WD`: `R CTRL`, then `W CTRL (value AND NOT 0x1)`. -/
def asmStopWd (value : Word) : List Line := [.r 1#6, .w 1#6 (value &&& ~~~1#32)]

/-! ### Boot and shutdown (R295, R296) -/

/-- What a platform chooses in the boot sequence (R295). -/
structure BootConfig where
  silence : Word
  pulse : Word
  relock : Word
  debounce0 : Word
  debounce1 : Word
  debounce2 : Word
  irqEn : Word
  ctrl : Word
deriving DecidableEq, Repr

/-- The boot sequence with a wait of `wait` cycles for the boot LOCK to end (R295). -/
def bootLines (c : BootConfig) (wait : Nat) : List Line :=
  [.rst, .w 5#6 c.silence, .w 6#6 c.pulse, .w 7#6 c.relock, .w 8#6 c.debounce0, .w 9#6 c.debounce1,
   .w 10#6 c.debounce2, .w 3#6 c.irqEn, .w 1#6 c.ctrl, asmLock, .t wait, .w 2#6 Config.flagMask]

/-- The shutdown sequence with waits for a pulse in progress and for the LOCK to end (R296). -/
def shutdownLines (waitBusy wait : Nat) : List Line := [.t waitBusy, asmLock, .t wait, .w 1#6 0#32]

end Sys2Proof.Machine
end

