-- ==== Sys2Proof/Safety.lean ====
section
/-! DEFINITION. What the claims say of a state of the block: the invariants of R38, the reserved bits of
R68, the stopped units, the fail-secure promise of R191, and runs of cycles. -/

namespace Sys2Proof.Machine

/-! ### Invariants (R38) -/

/-- R38 (1), with the part of the register above the count zero (R83, R143). R38 (2), a count of at most
255, is the counter's width. -/
abbrev Decoder.Inv (d : Decoder) : Prop :=
  (d.count = 0#8 → d.shift = 0#64) ∧ frameFits d.count d.shift = true

/-- R38 (3): a pulse in progress has a tick left. -/
abbrev Actuator.PulseRuns (a : Actuator) : Prop := a.pActive = true → a.pRem ≠ 0#32

/-- R38 (4): an armed relock excludes a pulse, the lock is UNLOCKED and a tick is left. -/
abbrev Actuator.RelockRuns (a : Actuator) : Prop :=
  a.rArmed = true → a.pActive = false ∧ a.locked = false ∧ a.rRem ≠ 0#32

/-- R38 (5): no fault is remembered outside a pulse. -/
abbrev Actuator.FaultInPulse (a : Actuator) : Prop := a.pActive = false → a.pFault = false

/-- R38 (3) to (5). -/
abbrev Actuator.Inv (a : Actuator) : Prop := a.PulseRuns ∧ a.RelockRuns ∧ a.FaultInPulse

/-- The reserved bits of the stored registers are 0 (R23, R24, R29, R31, R32, R68). -/
abbrev Block.Reserved (b : Block) : Prop :=
  b.ctrl &&& 0xFFFFFF00#32 = 0#32 ∧ b.irqEn &&& 0xFFFFF880#32 = 0#32 ∧ b.flags &&& 0x080#11 = 0#11 ∧
    b.errLen &&& 0xFFFFFF00#32 = 0#32 ∧ b.cardInfo &&& 0xFF00C000#32 = 0#32

/-- A stopped unit holds no work: the decoder is as WD_STOP leaves it, a stopped channel is unprimed with
no evaluation pending, and latch mode has no relock armed (R117, R159, R196, R200). -/
abbrev Block.StoppedIdle (b : Block) : Prop :=
  (b.wdEn = false → b.wd = Decoder.stopped) ∧
    (∀ k : Chan, b.sensEn k = false → (b.sn k).primed = false ∧ (b.sn k).pend = false) ∧
    (b.autoRelock = false → b.act.rArmed = false)

/-- The invariant of the block that every step keeps. -/
structure Block.Inv (b : Block) : Prop where
  decoder : b.wd.Inv
  actuator : b.act.Inv
  reserved : b.Reserved
  stopped : b.StoppedIdle

/-! ### Security (R191) -/

/-- "The block never sits UNLOCKED in strike mode without a pending relock" (R191): in strike mode an
unlocked block has a relock armed or a pulse under way. -/
abbrev Block.FailSecure (b : Block) : Prop :=
  b.autoRelock = true → b.act.locked = false → b.act.rArmed = true ∨ b.act.pActive = true

/-! ### Causes of the events (R261) -/

/-- The decoder closes a frame in the cycle: a tick of a running, primed decoder that no CTRL write of the
cycle stops, with an open frame whose silence has run out (R145, R147). -/
abbrev State.ClosesFrame (s : State) : Prop :=
  s.inputs.tick = true ∧ s.cur.wdEn = true ∧ s.clearsCtrl 0 = false ∧ s.cur.wd.primed = true ∧
    s.cur.wd.count ≠ 0#8 ∧ s.cur.wd.srem = 0#32

/-- A frame length that decodes (R82). -/
abbrev SupportedLength (len : FrameCount) : Prop := len = 26#8 ∨ len = 32#8 ∨ len = 34#8 ∨ len = 64#8

/-- Channel k runs its tick in the cycle (R112). -/
abbrev State.ChannelRuns (s : State) (k : Chan) : Prop :=
  s.inputs.tick = true ∧ s.cur.sensEn k = true ∧ s.clearsCtrl (2 + k.num) = false

/-- A running, primed channel evaluates in the cycle: on an edge with no debounce delay, or when a pending
evaluation has waited long enough with this tick (R114, R115). -/
abbrev State.Evaluates (s : State) (k : Chan) : Prop :=
  s.ChannelRuns k ∧ (s.cur.sn k).primed = true ∧
    if s.inputs.sens k ≠ (s.cur.sn k).prev then s.cur.debounce k = 0#32
    else (s.cur.sn k).pend = true ∧
      (s.cur.debounce k).toNat ≤ min ((s.cur.sn k).cnt.toNat + 1) (2 ^ 32 - 1)

/-- The pulse in progress completes in the cycle (R187). -/
abbrev State.PulseEnds (s : State) : Prop :=
  s.inputs.tick = true ∧ s.cur.act.pActive = true ∧ s.cur.act.pRem = 1#32

/-- DRV_FAULT was seen in the pulse, this tick included (R188). -/
abbrev State.FaultSeen (s : State) : Prop := s.cur.act.pFault = true ∨ s.inputs.fault = true

/-- The command of the cycle is refused: a reserved word, or LOCK or UNLOCK while BUSY (R185, R186). -/
abbrev State.CommandRefused (s : State) : Prop :=
  s.command = some .reserved ∨
    ((s.command = some .lock ∨ s.command = some .unlock) ∧ s.cur.act.pActive = true)

/-- The cause of each event, as the table of R261 has it. -/
def State.Causes (s : State) : Event → Prop
  | .cardValid => s.ClosesFrame ∧ SupportedLength s.cur.wd.count ∧ s.cur.flag .cardValid = false
  | .cardOvr => s.ClosesFrame ∧ SupportedLength s.cur.wd.count ∧ s.cur.flag .cardValid = true
  | .errValid => s.ClosesFrame ∧ ¬SupportedLength s.cur.wd.count ∧ s.cur.flag .errValid = false
  | .errOvr => s.ClosesFrame ∧ ¬SupportedLength s.cur.wd.count ∧ s.cur.flag .errValid = true
  | .lockDone => s.PulseEnds ∧ ¬s.FaultSeen
  | .lockErr => s.PulseEnds ∧ s.FaultSeen
  | .cmdRej => s.CommandRefused
  | .sensChg k =>
      s.Evaluates k ∧ xor (s.inputs.sens k) (s.cur.sensPol k) ≠ (s.cur.sn k).state

/-- The host clears an event flag in the cycle: it writes STATUS with the flag's bit at 1 (R224). -/
abbrev State.Acknowledges (s : State) (e : Event) : Prop :=
  ∃ v, s.written 2#6 = some v ∧ v.getLsbD e.code = true

/-! ### Operations by channel -/

/-- The row SENS_TICKk. -/
def tickOp : Chan → Instr
  | .door => .sensTick0
  | .proximity => .sensTick1
  | .exitButton => .sensTick2

/-- The row SENS_STOPk. -/
def stopOp : Chan → Instr
  | .door => .sensStop0
  | .proximity => .sensStop1
  | .exitButton => .sensStop2

/-- The row SENS_STARTk. -/
def startOp : Chan → Instr
  | .door => .sensStart0
  | .proximity => .sensStart1
  | .exitButton => .sensStart2

/-! ### Runs -/

/-- `n` cycles one after another; a fault or a refusal ends the run. -/
def runCycles : Nat → State → Host.Outcome State Fault Refusal
  | 0, s => .next s
  | n + 1, s =>
      match step s with
      | .next t => runCycles n t
      | .fault r => .fault r
      | .refused r => .refused r

/-- A cycle that is a tick, with no reset and no transaction. -/
abbrev TickCycle (p : Inputs) : Prop := p.rst = false ∧ p.tick = true ∧ p.bus = []

/-- Such a cycle with no driver fault. -/
abbrev QuietCycle (p : Inputs) : Prop := TickCycle p ∧ p.fault = false

/-- Such a cycle, driver fault or not, with both data lines idle. -/
abbrev SilentCycle (p : Inputs) : Prop := TickCycle p ∧ p.d0 = true ∧ p.d1 = true

/-- One Wiegand bit on the lines (R81): the cycles with its line at 0, then those with both lines idle. -/
structure LinePulse where
  bit : Bool
  low : List Inputs
  idle : List Inputs
deriving DecidableEq, Repr

/-- The cycles of a line pulse. -/
def LinePulse.cycles (q : LinePulse) : List Inputs := q.low ++ q.idle

/-- A pulse has at least one tick low and one idle, and its other line stays idle. The sensor lines and
DRV_FAULT are free. -/
abbrev LinePulse.OnTicks (q : LinePulse) : Prop :=
  q.low ≠ [] ∧ q.idle ≠ [] ∧ (∀ p ∈ q.low, TickCycle p ∧ p.d0 = q.bit ∧ p.d1 = !q.bit) ∧
    ∀ p ∈ q.idle, SilentCycle p

/-- The next `n` cycles of the stimulus all satisfy a condition. -/
abbrev State.Expects (s : State) (n : Nat) (c : Inputs → Prop) : Prop :=
  n ≤ s.stim.length ∧ ∀ p ∈ s.stim.take n, c p

/-- A byte offset that is a multiple of 4 (R65). -/
abbrev AlignedOffset (o : BitVec 8) : Prop := o.extractLsb' 0 2 = 0#2

/-- The bus presents something that the port can express: nothing, one transaction word, or one aligned
4-byte adapter access (R61, R64 to R66). -/
abbrev AcceptedCycle (p : Inputs) : Prop :=
  p.bus = [] ∨ (∃ w, p.bus = [.txn w]) ∨ (∃ o, p.bus = [.load o 4] ∧ AlignedOffset o) ∨
    ∃ o l, p.bus = [.store o l] ∧ l.length = 4 ∧ AlignedOffset o

/-- The bus presents one adapter access of other than 4 bytes (R64). -/
abbrev WrongWidth (p : Inputs) : Prop :=
  (∃ o n, p.bus = [.load o n] ∧ n ≠ 4) ∨ ∃ o l, p.bus = [.store o l] ∧ l.length ≠ 4

/-- The bus presents one 4-byte adapter access at an offset that is no multiple of 4 (R65). -/
abbrev MisalignedAccess (p : Inputs) : Prop :=
  (∃ o, p.bus = [.load o 4] ∧ ¬AlignedOffset o) ∨
    ∃ o l, p.bus = [.store o l] ∧ l.length = 4 ∧ ¬AlignedOffset o

/-- The number of ones among bits. -/
def onesOf (bits : List Bool) : Nat := bits.countP id

/-- The ticks a duration register stands for: `max(v, 1)` (R183, R191). -/
def ticksOf (v : Word) : Nat := max v.toNat 1

end Sys2Proof.Machine
end

