-- ==== Sys2Proof/Certificates/Slice0/Obligations.lean ====
section
/-! DEFINITION. The statements for the provers, each with the rules it formalises. -/

section

open Sys2Proof Sys2Proof.Machine

/-- O1. The block of State.reset has every register, flag and internal element at the value R40
lists, and its outputs LOCK_OUT, UNLOCK_OUT and IRQ are 0. (R40.) -/
def Obligations.ResetValues : Prop :=
  State.reset.cur =
      { ctrl := 0x00000002#32, irqEn := 0#32, silence := 40000#32, pulse := 50000#32,
        relock := 5000000#32, debounce0 := 0#32, debounce1 := 0#32, debounce2 := 0#32,
        flags := 0#11, cardLo := 0#32, cardHi := 0#32, cardInfo := 0#32, cardNum := 0#32,
        errLo := 0#32, errHi := 0#32, errLen := 0#32,
        wd := { primed := false, prev0 := true, prev1 := true, count := 0#8, shift := 0#64,
                srem := 0#32 },
        sn0 := { primed := false, prev := false, pend := false, cnt := 0#32, state := false },
        sn1 := { primed := false, prev := false, pend := false, cnt := 0#32, state := false },
        sn2 := { primed := false, prev := false, pend := false, cnt := 0#32, state := false },
        act := { locked := true, pActive := false, pDir := false, pRem := 0#32, pFault := false,
                 rArmed := false, rRem := 0#32 } } ∧
    State.reset.cur.lockOut = false ∧ State.reset.cur.unlockOut = false ∧
    State.reset.cur.irq = false

/-- O2. The block of State.reset satisfies Block.Inv: the invariants (1) to (5) of R38, the
reserved bits at 0, and every stopped unit idle. It also meets the fail-secure condition of R191.
That no cycle is in formation (nxt = cur, nothing raised) is the model's own form of a state
between cycles (log 1). (R38, R68, R191, R291.) -/
def Obligations.ResetMeetsInvariant : Prop :=
  State.reset.cur.Inv ∧ State.reset.cur.FailSecure ∧ State.reset.nxt = State.reset.cur ∧
    State.reset.raised = 0#11

/-- O3. In a cycle with RST = 0 whose one bus request decodes to a well-formed instruction i, the
step begins the cycle (nothing written, nothing raised, no read data), runs exec of i, then
WD_TICK, SENS_TICK0 to SENS_TICK2 and ACT_CYCLE, each by exec, and commits. With no request it
runs the units alone. The order of the parallel writes is log 1. (R98, R242.) -/
def Obligations.StepRunsDecodedInstruction : Prop :=
  (∀ (s : State) (r : BusReq) (i : Instr), s.inputs.rst = false → s.inputs.bus = [r] →
      decode (.bus r) = .ok i → i.wf = true →
      step s =
        match exec i s.beginCycle with
        | .next t =>
            commitAll (runAll [.wdTick, .sensTick0, .sensTick1, .sensTick2, .actCycle] t)
        | .fault e => .fault e
        | .refused e => .refused e) ∧
    ∀ s : State, s.inputs.rst = false → s.inputs.bus = [] →
      step s =
        commitAll (runAll [.wdTick, .sensTick0, .sensTick1, .sensTick2, .actCycle] s.beginCycle)

/-- O4. Take an open frame whose silence has run out and whose count and register are those of the
bits received. CLOSE answers what exec answers for the instruction that decode reads from those
bits. On every open frame with its silence run out CLOSE completes, raises exactly one of
CARD_VALID, CARD_OVR, ERR_VALID and ERR_OVR, and loads the raw bits and the length unless it drops
the frame; clearing the frame is left to the tick. With no such frame CLOSE completes and changes
nothing. That CLOSE, run alone, acts only on an open frame with srem = 0 is the model's guard (log
14): Close(L, v) of R148 has no guard of its own, its caller R147 has it. (R82, R147, R148.) -/
def Obligations.CloseRunsDecodedFrame : Prop :=
  (∀ (s : State) (bits : List Bool) (i : Instr), decode (.frame bits) = .ok i →
      s.cur.wd.count = frameCount bits → s.cur.wd.shift = frameValue bits → s.cur.wd.srem = 0#32 →
      exec .close s = exec i s) ∧
    (∀ s : State, s.cur.wd.count ≠ 0#8 → s.cur.wd.srem = 0#32 →
      ∃ t, exec .close s = .next t ∧ t.cur = s.cur ∧ t.nxt.wd = s.nxt.wd ∧
        t.raised = s.raised |||
          (if SupportedLength s.cur.wd.count then
            (if s.cur.flag .cardValid then 0x002#11 else 0x001#11)
          else (if s.cur.flag .errValid then 0x008#11 else 0x004#11)) ∧
        (SupportedLength s.cur.wd.count → s.cur.flag .cardValid = false →
          t.nxt.cardLo = s.cur.wd.shift.extractLsb' 0 32 ∧
          t.nxt.cardHi = s.cur.wd.shift.extractLsb' 32 32 ∧
          t.nxt.cardInfo.extractLsb' 0 8 = s.cur.wd.count) ∧
        (¬SupportedLength s.cur.wd.count → s.cur.flag .errValid = false →
          t.nxt.errLo = s.cur.wd.shift.extractLsb' 0 32 ∧
          t.nxt.errHi = s.cur.wd.shift.extractLsb' 32 32 ∧
          t.nxt.errLen = s.cur.wd.count.setWidth 32)) ∧
    ∀ s : State, s.cur.wd.count = 0#8 ∨ s.cur.wd.srem ≠ 0#32 → exec .close s = .next s

/-- O5. Transaction words and frames written out from R84, R87, R88, R97 and the worked frames of
R149 and R148 decode to the instructions they stand for. (R84, R87, R89, R97.) -/
def Obligations.DecodesWrittenWords : Prop :=
  decode (.bus (.txn 0x4100000003#39)) = .ok (.wrCtrl 3#32) ∧
    decode (.bus (.txn 0x0200000000#39)) = .ok .rdStatus ∧
    decode (.bus (.txn 0x4400000000#39)) = .ok .nop ∧
    decode (.bus (.txn 0x4400000001#39)) = .ok .lock ∧
    decode (.bus (.txn 0x4400000002#39)) = .ok .unlock ∧
    decode (.bus (.txn 0x4400000010#39)) = .ok (.cmdRsvd 0x10#32) ∧
    decode (.bus (.txn 0x0B00000000#39)) = .ok .rdRsvd11 ∧
    decode (.bus (.txn 0x7FFFFFFFFF#39)) = .ok (.wrRsvd63 0xFFFFFFFF#32) ∧
    decode (.frame (bitsMsb 26 0b00111101100110000001110011#26)) = .ok (.decW26 0x0F66073#26) ∧
    decode (.frame (List.replicate 25 true)) = .ok (.frameUnsupported 25#8 0x1FFFFFF#64)

/-- O6. A cycle with RST = 1, whatever is on the bus (log 17 for a malformed request), or one
whose bus presents nothing, any transaction word whatever, or an aligned 4-byte adapter load or
store (log 11), ends in a next state. In every other cycle too no step faults, and each refusal
implies its cause, with RST = 0: accessWidth only one adapter access of other than 4 bytes,
misaligned only one 4-byte access at an offset that is no multiple of 4 (log 11), busConflict only
two requests or more (log 12). No other refusal exists. (R64, R65, R220, R262, R290.) -/
def Obligations.StepCompletes : Prop :=
  (∀ s : State, s.inputs.rst = true ∨ AcceptedCycle s.inputs → ∃ t, step s = .next t) ∧
    (∀ s : State, (∃ t, step s = .next t) ∨ step s = .refused .accessWidth ∨
      step s = .refused .misaligned ∨ step s = .refused .busConflict) ∧
    ∀ s : State,
      (step s = .refused .accessWidth → s.inputs.rst = false ∧ WrongWidth s.inputs) ∧
      (step s = .refused .misaligned → s.inputs.rst = false ∧ MisalignedAccess s.inputs) ∧
      (step s = .refused .busConflict → s.inputs.rst = false ∧ 2 ≤ s.inputs.bus.length)

/-- O7. With RST = 0: an adapter load of other than 4 bytes, or a store of other than 4 bytes, is
refused as accessWidth, at a misaligned offset too (that of both at once the width is named is log
11); a 4-byte access with offset bits 1:0 nonzero as misaligned; more than one request as
busConflict (log 12). A 4-byte access at a multiple of 4 is the transaction word of its index, the
byte at the lowest offset being bits 7:0. (R64, R65, R66.) -/
def Obligations.RefusesInexpressibleAccesses : Prop :=
  (∀ (s : State) (o : BitVec 8) (n : Nat), s.inputs.rst = false → s.inputs.bus = [.load o n] →
      n ≠ 4 → step s = .refused .accessWidth) ∧
    (∀ (s : State) (o : BitVec 8) (l : List Byte), s.inputs.rst = false →
      s.inputs.bus = [.store o l] → l.length ≠ 4 → step s = .refused .accessWidth) ∧
    (∀ (s : State) (o : BitVec 8) (l : List Byte), s.inputs.rst = false → l.length = 4 →
      s.inputs.bus = [.load o 4] ∨ s.inputs.bus = [.store o l] → o.extractLsb' 0 2 ≠ 0#2 →
      step s = .refused .misaligned) ∧
    (∀ s : State, s.inputs.rst = false → 2 ≤ s.inputs.bus.length →
      step s = .refused .busConflict) ∧
    (∀ i : RegIndex, BusReq.toTxn (.load (i ++ 0#2) 4) = .ok (readWord i)) ∧
    ∀ (i : RegIndex) (v : Word), BusReq.toTxn (.store (i ++ 0#2) (wordBytes v)) = .ok (writeWord i v)

/-- O8. In a cycle with RST = 1 the block ends the cycle in the reset state, whatever the state
before, the tick, the pins and the transaction, and a read transaction returns 0. The fields nxt,
raised, rdata, stim and cycle are the model's own (logs 1 to 3; log 17 says what a reset cycle
does with a malformed request). (R266, R290.) -/
def Obligations.ResetCycle : Prop :=
  ∀ s : State, s.inputs.rst = true →
    ∃ d, step s = .next { cur := State.reset.cur, nxt := State.reset.cur, raised := 0#11, rdata := d,
                          stim := s.stim.tail, cycle := s.cycle + 1 } ∧
      (s.inputs.bus = [] → d = none) ∧
      ∀ w, s.inputs.bus = [.txn w] → d = if txnDir w then none else some 0#32

/-- O9. RD_ID, RD_CTRL, RD_IRQ_EN, RD_CMD, RD_SILENCE, RD_PULSE, RD_RELOCK, RD_DEBOUNCE0 to 2,
RD_CARD_LO, RD_CARD_HI, RD_CARD_INFO, RD_CARD_NUM, RD_ERR_LO, RD_ERR_HI, RD_ERR_LEN and
RD_RELOCK_REM complete in every state, answer the value R220 gives for their index, and change no
other state. (R62, R220.) -/
def Obligations.NamedReads : Prop :=
  ∀ s : State,
    exec .rdId s = .next { s with rdata := some 0x57440007#32 } ∧
    exec .rdCtrl s = .next { s with rdata := some ((s.cur.ctrl.extractLsb' 0 8).setWidth 32) } ∧
    exec .rdIrqEn s = .next { s with rdata := some (s.cur.irqEn &&& 0x77F#32) } ∧
    exec .rdCmd s = .next { s with rdata := some 0#32 } ∧
    exec .rdSilence s = .next { s with rdata := some s.cur.silence } ∧
    exec .rdPulse s = .next { s with rdata := some s.cur.pulse } ∧
    exec .rdRelock s = .next { s with rdata := some s.cur.relock } ∧
    exec .rdDebounce0 s = .next { s with rdata := some s.cur.debounce0 } ∧
    exec .rdDebounce1 s = .next { s with rdata := some s.cur.debounce1 } ∧
    exec .rdDebounce2 s = .next { s with rdata := some s.cur.debounce2 } ∧
    exec .rdCardLo s = .next { s with rdata := some s.cur.cardLo } ∧
    exec .rdCardHi s = .next { s with rdata := some s.cur.cardHi } ∧
    exec .rdCardInfo s = .next { s with rdata := some s.cur.cardInfo } ∧
    exec .rdCardNum s = .next { s with rdata := some s.cur.cardNum } ∧
    exec .rdErrLo s = .next { s with rdata := some s.cur.errLo } ∧
    exec .rdErrHi s = .next { s with rdata := some s.cur.errHi } ∧
    exec .rdErrLen s = .next { s with rdata := some ((s.cur.errLen.extractLsb' 0 8).setWidth 32) } ∧
    exec .rdRelockRem s =
      .next { s with rdata := some (if s.cur.act.rArmed then s.cur.act.rRem else 0#32) }

/-- O10. RD_STATUS completes in every state and changes nothing but the read data: bits 6:0 and
10:8 are the event flags, bit 16 LOCKED, 17 BUSY, 18 RELOCK_ARMED, 19 FRAME_OPEN, 20 to 22
SENS_STATE0 to 2, and every other bit is 0. After reset it reads 0x0001_0000. (R29, R30, R225.) -/
def Obligations.StatusReadsItsFields : Prop :=
  (∀ s : State, ∃ v : Word, exec .rdStatus s = .next { s with rdata := some v } ∧
      ∀ n, n < 32 → v.getLsbD n =
        if n < 11 ∧ n ≠ 7 then s.cur.flags.getLsbD n
        else if n = 16 then s.cur.act.locked
        else if n = 17 then s.cur.act.pActive
        else if n = 18 then s.cur.act.rArmed
        else if n = 19 then decide (s.cur.wd.count ≠ 0#8)
        else if n = 20 then s.cur.sn0.state
        else if n = 21 then s.cur.sn1.state
        else if n = 22 then s.cur.sn2.state
        else false) ∧
    exec .rdStatus State.reset = .next { State.reset with rdata := some 0x00010000#32 }

/-- O11. Every RD_RSVD row (11, 20 to 63) completes and answers 0, and changes nothing else. Every
WR_RSVD row and the writes of ID, CARD_LO, CARD_HI, CARD_INFO, CARD_NUM, ERR_LO, ERR_HI, ERR_LEN
and RELOCK_REM complete and change no state and set no flag, whatever the value written. (R67.) -/
def Obligations.ReservedAndReadOnlyAccesses : Prop :=
  (∀ (s : State) (i : Instr), i ∈
      ([
       .rdRsvd11, .rdRsvd20, .rdRsvd21, .rdRsvd22, .rdRsvd23, .rdRsvd24, .rdRsvd25, .rdRsvd26,
       .rdRsvd27, .rdRsvd28, .rdRsvd29, .rdRsvd30, .rdRsvd31, .rdRsvd32, .rdRsvd33, .rdRsvd34,
       .rdRsvd35, .rdRsvd36, .rdRsvd37, .rdRsvd38, .rdRsvd39, .rdRsvd40, .rdRsvd41, .rdRsvd42,
       .rdRsvd43, .rdRsvd44, .rdRsvd45, .rdRsvd46, .rdRsvd47, .rdRsvd48, .rdRsvd49, .rdRsvd50,
       .rdRsvd51, .rdRsvd52, .rdRsvd53, .rdRsvd54, .rdRsvd55, .rdRsvd56, .rdRsvd57, .rdRsvd58,
       .rdRsvd59, .rdRsvd60, .rdRsvd61, .rdRsvd62, .rdRsvd63] : List Instr) →
      exec i s = .next { s with rdata := some 0#32 }) ∧
    ∀ (s : State) (v : Word) (i : Instr), i ∈
      ([
       .wrId v, .wrCardLo v, .wrCardHi v, .wrCardInfo v, .wrCardNum v, .wrErrLo v, .wrErrHi v,
       .wrErrLen v, .wrRelockRem v, .wrRsvd11 v, .wrRsvd20 v, .wrRsvd21 v, .wrRsvd22 v,
       .wrRsvd23 v, .wrRsvd24 v, .wrRsvd25 v, .wrRsvd26 v, .wrRsvd27 v, .wrRsvd28 v, .wrRsvd29 v,
       .wrRsvd30 v, .wrRsvd31 v, .wrRsvd32 v, .wrRsvd33 v, .wrRsvd34 v, .wrRsvd35 v, .wrRsvd36 v,
       .wrRsvd37 v, .wrRsvd38 v, .wrRsvd39 v, .wrRsvd40 v, .wrRsvd41 v, .wrRsvd42 v, .wrRsvd43 v,
       .wrRsvd44 v, .wrRsvd45 v, .wrRsvd46 v, .wrRsvd47 v, .wrRsvd48 v, .wrRsvd49 v, .wrRsvd50 v,
       .wrRsvd51 v, .wrRsvd52 v, .wrRsvd53 v, .wrRsvd54 v, .wrRsvd55 v, .wrRsvd56 v, .wrRsvd57 v,
       .wrRsvd58 v, .wrRsvd59 v, .wrRsvd60 v, .wrRsvd61 v, .wrRsvd62 v, .wrRsvd63 v] : List Instr) →
      exec i s = .next s

/-- O12. Every transaction word with DIR = 0, whatever its DATA, completes and answers RegRead of
its index in the block at the start of the cycle. At the step level the block after a cycle with a
read equals the block after the same cycle without a transaction, whatever the tick and the pins:
a read clears no flag and pops nothing, so two reads with no tick between answer the same value.
(R62, R220.) -/
def Obligations.ReadOfAnyWord : Prop :=
  (∀ (s : State) (w : TxnWord), txnDir w = false →
      exec (decodeTxn w) s = .next { s with rdata := some (s.cur.regRead (txnIdx w)) }) ∧
    (∀ (s t u : State) (p q : Inputs) (ps qs : List Inputs) (w : TxnWord), s.stim = p :: ps →
      p.rst = false → p.bus = [.txn w] → txnDir w = false → q = { p with bus := [] } →
      step s = .next t → step { s with stim := q :: qs } = .next u →
      t.cur = u.cur ∧ t.rdata = some (s.cur.regRead (txnIdx w)) ∧ u.rdata = none) ∧
    ∀ (s t : State) (w : TxnWord), s.inputs.rst = false → s.inputs.tick = false →
      s.inputs.bus = [.txn w] → txnDir w = false → step s = .next t →
      ∀ i, t.cur.regRead i = s.cur.regRead i

/-- O13. WR_SILENCE, WR_PULSE, WR_RELOCK and WR_DEBOUNCE0 to 2 store all 32 bits; WR_IRQ_EN stores
the value masked with 0x77F. Each completes in every state and changes nothing else. (R227, R230,
R231, R232, R233.) -/
def Obligations.ConfigWrites : Prop :=
  ∀ (s : State) (v : Word),
    exec (.wrIrqEn v) s = .next { s with nxt := { s.nxt with irqEn := v &&& 0x0000077F#32 } } ∧
    exec (.wrSilence v) s = .next { s with nxt := { s.nxt with silence := v } } ∧
    exec (.wrPulse v) s = .next { s with nxt := { s.nxt with pulse := v } } ∧
    exec (.wrRelock v) s = .next { s with nxt := { s.nxt with relock := v } } ∧
    exec (.wrDebounce0 v) s = .next { s with nxt := { s.nxt with debounce0 := v } } ∧
    exec (.wrDebounce1 v) s = .next { s with nxt := { s.nxt with debounce1 := v } } ∧
    exec (.wrDebounce2 v) s = .next { s with nxt := { s.nxt with debounce2 := v } }

/-- O14. WR_CTRL completes in every state. It stores wdata[7:0] with bits 31:8 at 0. With bit 0 at
0 the decoder is reset to its stopped values; with bit 2+k at 0 channel k loses primed, pend and
cnt and keeps prev and state; with bit 1 at 0 a pending relock is cancelled. It changes no other
state, sets no flag and clears none. (R117, R159, R196, R223.) -/
def Obligations.CtrlWrite : Prop :=
  ∀ (s : State) (v : Word),
    exec (.wrCtrl v) s =
      .next { s with nxt := { s.nxt with
        ctrl := v &&& 0x000000FF#32
        wd := if v.getLsbD 0 then s.nxt.wd
              else { primed := false, prev0 := true, prev1 := true, count := 0#8, shift := 0#64,
                     srem := 0#32 }
        sn0 := if v.getLsbD 2 then s.nxt.sn0
               else { s.nxt.sn0 with primed := false, pend := false, cnt := 0#32 }
        sn1 := if v.getLsbD 3 then s.nxt.sn1
               else { s.nxt.sn1 with primed := false, pend := false, cnt := 0#32 }
        sn2 := if v.getLsbD 4 then s.nxt.sn2
               else { s.nxt.sn2 with primed := false, pend := false, cnt := 0#32 }
        act := if v.getLsbD 1 then s.nxt.act
               else { s.nxt.act with rArmed := false, rRem := 0#32 } } }

/-- O15. WR_STATUS completes in every state: each event flag ends at its value at the start of the
cycle, or at 0 when its bit is written 1; bit 7 is never written; nothing else changes. Writing 0
clears nothing, and writing 0xFFFF_FFFF clears every event flag. (R224.) -/
def Obligations.StatusWriteClears : Prop :=
  (∀ (s : State) (v : Word), ∃ f : FlagVec,
      exec (.wrStatus v) s = .next { s with nxt := { s.nxt with flags := f } } ∧
      ∀ n, n < 11 → f.getLsbD n = (s.cur.flags.getLsbD n && !(v.getLsbD n && decide (n ≠ 7)))) ∧
    (∀ s : State, exec (.wrStatus 0#32) s =
      .next { s with nxt := { s.nxt with flags := s.cur.flags } }) ∧
    ∀ s : State, exec (.wrStatus 0xFFFFFFFF#32) s =
      .next { s with nxt := { s.nxt with flags := s.cur.flags &&& 0x080#11 } }

/-- O16. With act.p_active = 0, LOCK starts a pulse of direction 1 and UNLOCK one of direction 0,
of max(PULSE, 1) ticks, with no fault seen, and cancels a pending relock. Nothing else changes and
no flag is raised. (R183, R184, R194.) -/
def Obligations.CommandAccepted : Prop :=
  ∀ s : State, s.cur.act.pActive = false →
    exec .lock s =
      .next { s with nxt := { s.nxt with act := { s.nxt.act with
        pActive := true, pDir := true, pRem := BitVec.ofNat 32 (max s.cur.pulse.toNat 1),
        pFault := false, rArmed := false, rRem := 0#32 } } } ∧
    exec .unlock s =
      .next { s with nxt := { s.nxt with act := { s.nxt.act with
        pActive := true, pDir := false, pRem := BitVec.ofNat 32 (max s.cur.pulse.toNat 1),
        pFault := false, rArmed := false, rRem := 0#32 } } }

/-- O17. With act.p_active = 1, LOCK and UNLOCK complete, raise CMD_REJ (bit 6) and change nothing
else. (R186.) -/
def Obligations.CommandRefused : Prop :=
  ∀ s : State, s.cur.act.pActive = true →
    exec .lock s = .next { s with raised := s.raised ||| 0x040#11 } ∧
    exec .unlock s = .next { s with raised := s.raised ||| 0x040#11 }

/-- O18. Every word other than 0x0, 0x1 and 0x2, written to CMD, decodes to CMD_RSVD, and CMD_RSVD
completes in every state, raises CMD_REJ (bit 6) and changes nothing else, BUSY or not. For the
words 0x0, 0x1 and 0x2, which decode to no CMD_RSVD, that effect of the term is log 19. (R88,
R185.) -/
def Obligations.ReservedCommandWords : Prop :=
  (∀ w : Word, w ≠ 0#32 → w ≠ 1#32 → w ≠ 2#32 → decodeTxn (writeWord 4#6 w) = .cmdRsvd w) ∧
    ∀ (s : State) (w : Word), exec (.cmdRsvd w) s = .next { s with raised := s.raised ||| 0x040#11 }

/-- O19. WR_CMD completes in every state with the effect of the command its word decodes to: NOP
for 0x0, LOCK for 0x1, UNLOCK for 0x2, CMD_RSVD else. NOP completes and changes nothing, even
while BUSY. (R182, R229.) -/
def Obligations.WrCmdIsItsCommand : Prop :=
  (∀ s : State, exec .nop s = .next s) ∧
    ∀ (s : State) (w : Word),
      exec (.wrCmd w) s =
        exec (if w = 0#32 then .nop else if w = 1#32 then .lock else if w = 2#32 then .unlock
              else .cmdRsvd w) s ∧
      ∃ t, exec (.wrCmd w) s = .next t

/-- O20. With CARD_VALID = 0, DEC_W26 loads CARD_LO with the raw value, CARD_HI with 0, CARD_NUM
with raw[16:1], and CARD_INFO with LEN 26, HAS_PARITY, PAR_E_OK exactly when the bits f[0..12]
hold an even number of ones, PAR_O_OK exactly when f[13..25] hold an odd number, PAR_OK their AND,
FC_VALID, NUM_VALID, FC = raw[24:17] and reserved bits 0. It raises CARD_VALID and changes nothing
else. The meaning of a correct parity bit is R90's, from general knowledge (log 8). (R89, R90,
R149, R154, R156.) -/
def Obligations.W26Decodes : Prop :=
  ∀ (s : State) (f : BitVec 26), s.cur.flag .cardValid = false →
    ∃ info : Word,
      exec (.decW26 f) s =
        .next { s with
          nxt := { s.nxt with cardLo := f.setWidth 32, cardHi := 0#32, cardInfo := info,
                              cardNum := (f.extractLsb' 1 16).setWidth 32 }
          raised := s.raised ||| 0x001#11 } ∧
      info.extractLsb' 0 8 = 26#8 ∧ info.getLsbD 8 = true ∧
      info.getLsbD 10 = decide (onesOf ((bitsMsb 26 f).take 13) % 2 = 0) ∧
      info.getLsbD 11 = decide (onesOf ((bitsMsb 26 f).drop 13) % 2 = 1) ∧
      info.getLsbD 9 = (info.getLsbD 10 && info.getLsbD 11) ∧
      info.getLsbD 12 = true ∧ info.getLsbD 13 = true ∧ info.extractLsb' 14 2 = 0#2 ∧
      info.extractLsb' 16 8 = f.extractLsb' 17 8 ∧ info.extractLsb' 24 8 = 0#8

/-- O21. With CARD_VALID = 0, DEC_W34 loads CARD_HI:CARD_LO with the raw value, CARD_NUM with
raw[32:1], and CARD_INFO with LEN 34, HAS_PARITY, PAR_E_OK exactly when f[0..16] hold an even
number of ones, PAR_O_OK exactly when f[17..33] hold an odd number, PAR_OK their AND, FC_VALID 0,
NUM_VALID 1 and every other bit 0. It raises CARD_VALID and changes nothing else (log 8 as for
W26). (R91, R92, R150, R154, R156.) -/
def Obligations.W34Decodes : Prop :=
  ∀ (s : State) (f : BitVec 34), s.cur.flag .cardValid = false →
    ∃ info : Word,
      exec (.decW34 f) s =
        .next { s with
          nxt := { s.nxt with cardLo := f.extractLsb' 0 32,
                              cardHi := (f.extractLsb' 32 2).setWidth 32, cardInfo := info,
                              cardNum := f.extractLsb' 1 32 }
          raised := s.raised ||| 0x001#11 } ∧
      info.extractLsb' 0 8 = 34#8 ∧ info.getLsbD 8 = true ∧
      info.getLsbD 10 = decide (onesOf ((bitsMsb 34 f).take 17) % 2 = 0) ∧
      info.getLsbD 11 = decide (onesOf ((bitsMsb 34 f).drop 17) % 2 = 1) ∧
      info.getLsbD 9 = (info.getLsbD 10 && info.getLsbD 11) ∧
      info.getLsbD 12 = false ∧ info.getLsbD 13 = true ∧ info.extractLsb' 14 18 = 0#18

/-- O22. With CARD_VALID = 0, DEC_W32 loads CARD_LO with the frame and CARD_HI with 0, DEC_W64
loads both halves; CARD_INFO is the length alone and CARD_NUM 0. Each raises CARD_VALID and
changes nothing else. (R151, R152, R154.) -/
def Obligations.RawFormatsDecode : Prop :=
  (∀ (s : State) (f : BitVec 32), s.cur.flag .cardValid = false →
      exec (.decW32 f) s =
        .next { s with
          nxt := { s.nxt with cardLo := f, cardHi := 0#32, cardInfo := 0x00000020#32,
                              cardNum := 0#32 }
          raised := s.raised ||| 0x001#11 }) ∧
    ∀ (s : State) (f : BitVec 64), s.cur.flag .cardValid = false →
      exec (.decW64 f) s =
        .next { s with
          nxt := { s.nxt with cardLo := f.extractLsb' 0 32, cardHi := f.extractLsb' 32 32,
                              cardInfo := 0x00000040#32, cardNum := 0#32 }
          raised := s.raised ||| 0x001#11 }

/-- O23. With CARD_VALID = 1, each of DEC_W26, DEC_W32, DEC_W34 and DEC_W64 completes, raises
CARD_OVR (bit 1) and changes nothing else: CARD_* keep the unread read. (R154, R261.) -/
def Obligations.CardReadDropped : Prop :=
  ∀ s : State, s.cur.flag .cardValid = true →
    (∀ f, exec (.decW26 f) s = .next { s with raised := s.raised ||| 0x002#11 }) ∧
    (∀ f, exec (.decW32 f) s = .next { s with raised := s.raised ||| 0x002#11 }) ∧
    (∀ f, exec (.decW34 f) s = .next { s with raised := s.raised ||| 0x002#11 }) ∧
    ∀ f, exec (.decW64 f) s = .next { s with raised := s.raised ||| 0x002#11 }

/-- O24. FRAME_UNSUPPORTED with ERR_VALID = 0 loads ERR_LO and ERR_HI with the frame register's
halves and ERR_LEN with the saturated count, and raises ERR_VALID (bit 2); with ERR_VALID = 1 it
raises ERR_OVR (bit 3) and loads nothing. Nothing else changes. A cycle that closes no frame
leaves ERR_* as they are, whatever flag the host clears in it. For a length of 0, 26, 32, 34 or
64, or a register that does not fit its length, which decode to no FRAME_UNSUPPORTED, that effect
of the term is log 19. (R148, R153, R155.) -/
def Obligations.UnsupportedFrameReported : Prop :=
  (∀ (s : State) (len : FrameCount) (v : FrameReg), s.cur.flag .errValid = false →
      exec (.frameUnsupported len v) s =
        .next { s with
          nxt := { s.nxt with errLo := v.extractLsb' 0 32, errHi := v.extractLsb' 32 32,
                              errLen := len.setWidth 32 }
          raised := s.raised ||| 0x004#11 }) ∧
    (∀ (s : State) (len : FrameCount) (v : FrameReg), s.cur.flag .errValid = true →
      exec (.frameUnsupported len v) s = .next { s with raised := s.raised ||| 0x008#11 }) ∧
    ∀ s t : State, s.inputs.rst = false → step s = .next t → ¬s.ClosesFrame →
      t.cur.errLo = s.cur.errLo ∧ t.cur.errHi = s.cur.errHi ∧ t.cur.errLen = s.cur.errLen

/-- O25. For a frame of L ≤ 64 bits f the raw value is the sum of f[i] · 2^(L−1−i); equivalently
raw[L−1−i] = f[i] and every higher bit is 0. The decoder's register holds it after appending the
bits to an empty frame. The bits 1, 0, 1, 1 assemble to 11. (R83.) -/
def Obligations.RawValueAssembly : Prop :=
  (∀ bits : List Bool, bits.length ≤ 64 →
      (frameValue bits).toNat =
        ∑ i ∈ Finset.range bits.length,
          (if bits.getD i false then 1 else 0) * 2 ^ (bits.length - 1 - i)) ∧
    (∀ (bits : List Bool) (n : Nat), bits.length ≤ 64 →
      (frameValue bits).getLsbD n =
        if n < bits.length then bits.getD (bits.length - 1 - n) false else false) ∧
    (∀ (bits : List Bool) (d : Decoder), d.shift = 0#64 →
      (bits.foldl Decoder.append d).shift = frameValue bits) ∧
    frameValue [true, false, true, true] = 11#64

/-- O26. An appended bit enters the frame register at bit 0 below the old bits 62:0, and the count
goes up by one to at most 255. After L bits appended to an empty frame the count is min(L, 255),
and the register holds the last 64 bits received, the last in bit 0 (for L ≤ 64 that is the raw
value of the frame). (R143.) -/
def Obligations.AppendingABit : Prop :=
  (∀ (d : Decoder) (b : Bool),
      (d.append b).shift = d.shift <<< 1 ||| (if b then 1#64 else 0#64) ∧
      (d.append b).count.toNat = min (d.count.toNat + 1) 255 ∧
      (d.append b).srem = d.srem ∧ (d.append b).primed = d.primed ∧
      (d.append b).prev0 = d.prev0 ∧ (d.append b).prev1 = d.prev1) ∧
    ∀ (bits : List Bool) (d : Decoder), d.count = 0#8 → d.shift = 0#64 →
      (bits.foldl Decoder.append d).count.toNat = min bits.length 255 ∧
      (∀ n, n < 64 → (bits.foldl Decoder.append d).shift.getLsbD n =
        if n < bits.length then bits.getD (bits.length - 1 - n) false else false) ∧
      (bits.length ≤ 64 → (bits.foldl Decoder.append d).shift = frameValue bits)

/-- O27. WD_TICK completes and changes nothing in a cycle that is no tick, that writes CTRL with
bit 0 at 0, or that starts with WD_EN = 0. In any other cycle, with wd.primed = 0, it loads prev0
and prev1 from the lines, sets primed, and does nothing else: no bit is detected. (R147, R160.) -/
def Obligations.WdTickStopsAndPrimes : Prop :=
  (∀ s : State, s.inputs.tick = false ∨ s.clearsCtrl 0 = true ∨ s.cur.wdEn = false →
      exec .wdTick s = .next s) ∧
    ∀ s : State, s.inputs.tick = true → s.clearsCtrl 0 = false → s.cur.wdEn = true →
      s.cur.wd.primed = false →
      exec .wdTick s =
        .next { s with nxt := { s.nxt with wd := { s.cur.wd with
          prev0 := s.inputs.d0, prev1 := s.inputs.d1, primed := true } } }

/-- O28. Take a tick of a running, primed decoder. First CLOSE runs: it acts only on an open frame
with wd.srem = 0. The frame it leaves is empty, or else the open frame as it was. Then a falling
edge on DATA0 appends 0, and one on DATA1 appends 1 after it. A bit reloads srem with SILENCE; an
open frame that neither closed nor grew counts srem down by 1; else srem stays. The levels become
prev0 and prev1. Nothing else changes. (R141, R142, R144, R146, R147, R157.) -/
def Obligations.WdTickAccumulates : Prop :=
  ∀ s : State, s.inputs.tick = true → s.clearsCtrl 0 = false → s.cur.wdEn = true →
    s.cur.wd.primed = true →
    let silent := s.cur.wd.count ≠ 0#8 ∧ s.cur.wd.srem = 0#32
    let bits := (if s.cur.wd.prev0 && !s.inputs.d0 then [false] else []) ++
      (if s.cur.wd.prev1 && !s.inputs.d1 then [true] else [])
    let count := if silent then 0#8 else s.cur.wd.count
    let shift := if silent then 0#64 else s.cur.wd.shift
    ∃ u, exec .close s = .next u ∧
      exec .wdTick s =
        .next { u with nxt := { u.nxt with wd :=
          { primed := true, prev0 := s.inputs.d0, prev1 := s.inputs.d1
            count := BitVec.ofNat 8 (min (count.toNat + bits.length) 255)
            shift := bits.foldl (fun r b => r <<< 1 ||| (if b then 1#64 else 0#64)) shift
            srem := if bits ≠ [] then s.cur.silence
                    else if s.cur.wd.count ≠ 0#8 ∧ s.cur.wd.srem ≠ 0#32 then s.cur.wd.srem - 1#32
                    else s.cur.wd.srem } } }

/-- O29. A tick with wd.count = 0 raises no event and loads no holding register: WD_TICK completes
with the events raised, and the CARD and ERR registers, as they were. CLOSE run alone changes
nothing with no open frame (log 14), and a frame of no bits is refused by decode. (R147, R158.) -/
def Obligations.ZeroBitFrames : Prop :=
  (∀ s : State, s.cur.wd.count = 0#8 →
      exec .close s = .next s ∧
      ∃ d, exec .wdTick s = .next { s with nxt := { s.nxt with wd := d } }) ∧
    decode (.frame []) = .error .emptyFrame

/-- O30. WD_STOP completes in every state, writes the decoder's stopped values, and changes
nothing else: no flag is raised and CARD_* and ERR_* are kept. WD_START with WD_EN = 0 stores bit
0 of CTRL and does nothing else; with WD_EN = 1 it changes nothing (log 14 says how the model
guards the operation). (R159, R160.) -/
def Obligations.WdStopAndStart : Prop :=
  (∀ s : State, exec .wdStop s =
      .next { s with nxt := { s.nxt with wd :=
        { primed := false, prev0 := true, prev1 := true, count := 0#8, shift := 0#64,
          srem := 0#32 } } }) ∧
    (∀ s : State, s.cur.wdEn = false →
      exec .wdStart s = .next { s with nxt := { s.nxt with ctrl := s.nxt.ctrl ||| 1#32 } }) ∧
    ∀ s : State, s.cur.wdEn = true → exec .wdStart s = .next s

/-- O31. For each channel k, SENS_TICKk completes and changes nothing unless the cycle is a tick,
starts with SENS_ENk = 1 and does not write CTRL with bit 2+k at 0. When it runs with primed = 0
it loads prev from the line, sets primed, and does nothing else. (R112, R113, R121.) -/
def Obligations.SensTickStopsAndPrimes : Prop :=
  ∀ (s : State) (k : Chan),
    (¬s.ChannelRuns k → exec (tickOp k) s = .next s) ∧
    (s.ChannelRuns k → (s.cur.sn k).primed = false →
      exec (tickOp k) s =
        .next { s with nxt := s.nxt.putSn k { s.cur.sn k with
          prev := s.inputs.sens k, primed := true } })

/-- O32. Take a tick of a running, primed channel k. An edge starts a pending evaluation with
count 0; without one a pending evaluation ages by a tick, saturating at 2^32 − 1. When an
evaluation is pending and its count has reached DEBOUNCEk, the channel clears pend and takes the
level XOR SENS_POLk as its state, and raises SENS_CHGk exactly when that differs from the state
before. Nothing else changes. (R111, R114, R115, R121.) -/
def Obligations.SensTickEvaluates : Prop :=
  ∀ (s : State) (k : Chan), s.ChannelRuns k → (s.cur.sn k).primed = true →
    let level := s.inputs.sens k
    let edge := level != (s.cur.sn k).prev
    let pend := edge || (s.cur.sn k).pend
    let cnt := if edge then 0
      else if (s.cur.sn k).pend then min ((s.cur.sn k).cnt.toNat + 1) (2 ^ 32 - 1)
      else (s.cur.sn k).cnt.toNat
    let due := pend = true ∧ (s.cur.debounce k).toNat ≤ cnt
    let logical := xor level (s.cur.sensPol k)
    exec (tickOp k) s =
      .next { s with
        nxt := s.nxt.putSn k
          { primed := true, prev := level, pend := decide (pend = true ∧ ¬due)
            cnt := BitVec.ofNat 32 cnt, state := if due then logical else (s.cur.sn k).state }
        raised := if due ∧ logical ≠ (s.cur.sn k).state then s.raised ||| 1#11 <<< (8 + k.num)
                  else s.raised }

/-- O33. For each channel k, SENS_STOPk completes in every state and clears primed, pend and cnt
of channel k and nothing else; twice is the same as once. SENS_STARTk with SENS_ENk = 0 stores bit
2+k of CTRL and changes nothing else; with SENS_ENk = 1 it changes nothing (log 14). (R117, R118.)
-/
def Obligations.SensStopAndStart : Prop :=
  ∀ (s : State) (k : Chan),
    exec (stopOp k) s =
      .next { s with nxt := s.nxt.putSn k { s.nxt.sn k with
        primed := false, pend := false, cnt := 0#32 } } ∧
    (∀ t, exec (stopOp k) s = .next t → exec (stopOp k) t = .next t) ∧
    (s.cur.sensEn k = false →
      exec (startOp k) s =
        .next { s with nxt := { s.nxt with ctrl := s.nxt.ctrl ||| 1#32 <<< (2 + k.num) } }) ∧
    (s.cur.sensEn k = true → exec (startOp k) s = .next s)

/-- O34. In a cycle that writes LOCK or UNLOCK to CMD with act.p_active = 0, tick or not,
ACT_CYCLE starts the pulse and cancels a pending relock, even one whose fire tick this is, and
changes nothing else. (R195, R201.) -/
def Obligations.ActCycleAcceptsCommand : Prop :=
  ∀ (s : State) (dir : Bool), s.cur.act.pActive = false →
    s.written 4#6 = some (if dir then 1#32 else 2#32) →
    exec .actCycle s =
      .next { s with nxt := { s.nxt with act := { s.nxt.act with
        pActive := true, pDir := dir, pRem := BitVec.ofNat 32 (max s.cur.pulse.toNat 1),
        pFault := false, rArmed := false, rRem := 0#32 } } }

/-- O35. On a tick with act.p_active = 1 ACT_CYCLE counts p_rem down by 1 and remembers DRV_FAULT;
when p_rem was 1 it ends the pulse instead: without a fault LOCKED takes the pulse's direction and
LOCK_DONE is raised, with one LOCKED is unchanged and LOCK_ERR is raised; in strike mode, if the
lock is then UNLOCKED, a relock of max(RELOCK, 1) ticks is armed. A CTRL write of the cycle with
bit 1 at 0 cancels the relock last of all. A command of the cycle is refused with CMD_REJ, unless
it is NOP. Nothing else changes. (R187, R188, R189, R190, R191, R201.) -/
def Obligations.ActCycleRunsPulse : Prop :=
  ∀ s : State, s.inputs.tick = true → s.cur.act.pActive = true →
    let seen := s.cur.act.pFault || s.inputs.fault
    let locked := if seen then s.cur.act.locked else s.cur.act.pDir
    let ended : Actuator :=
      { s.nxt.act with pActive := false, pRem := 0#32, pFault := false, locked := locked }
    let cancel := fun a : Actuator =>
      if s.clearsCtrl 1 then { a with rArmed := false, rRem := 0#32 } else a
    let refused := s.raised ||| (if s.command = none ∨ s.command = some .nop then 0#11 else 0x040#11)
    (s.cur.act.pRem ≠ 1#32 →
      exec .actCycle s =
        .next { s with
          nxt := { s.nxt with
            act := cancel { s.nxt.act with pRem := s.cur.act.pRem - 1#32, pFault := seen } }
          raised := refused }) ∧
    (s.cur.act.pRem = 1#32 →
      exec .actCycle s =
        .next { s with
          nxt := { s.nxt with
            act := cancel (if s.cur.autoRelock = true ∧ locked = false then
                { ended with rArmed := true, rRem := BitVec.ofNat 32 (max s.cur.relock.toNat 1) }
              else ended) }
          raised := refused ||| (if seen then 0x020#11 else 0x010#11) })

/-- O36. On a tick with no pulse and a relock armed, in a cycle that accepts no command, ACT_CYCLE
counts r_rem down by 1; when r_rem was 1 it disarms the relock and starts a LOCK pulse of
max(PULSE, 1) ticks if the lock is UNLOCKED, and only disarms if it is LOCKED. A CTRL write with
bit 1 at 0 cancels the relock. A reserved command raises CMD_REJ. Nothing else changes.
RELOCK_FIRE alone does the same firing and nothing in any other cycle (log 14). (R192, R193, R196,
R201.) -/
def Obligations.ActCycleRunsRelock : Prop :=
  ∀ s : State,
    let fired : Actuator := { s.nxt.act with rArmed := false, rRem := 0#32 }
    let relocked : Actuator :=
      if s.cur.act.locked then fired
      else { fired with pActive := true, pDir := true,
                         pRem := BitVec.ofNat 32 (max s.cur.pulse.toNat 1), pFault := false }
    let cancel := fun a : Actuator =>
      if s.clearsCtrl 1 then { a with rArmed := false, rRem := 0#32 } else a
    let refused := s.raised ||| (if s.command = some .reserved then 0x040#11 else 0#11)
    (s.inputs.tick = true → s.cur.act.pActive = false → s.cur.act.rArmed = true →
      s.command ≠ some .lock → s.command ≠ some .unlock →
      exec .actCycle s =
        .next { s with
          nxt := { s.nxt with
            act := cancel (if s.cur.act.rRem = 1#32 then relocked
              else { s.nxt.act with rRem := s.cur.act.rRem - 1#32 }) }
          raised := refused }) ∧
    (s.inputs.tick = true → s.cur.act.rArmed = true → s.cur.act.rRem = 1#32 →
      exec .relockFire s = .next { s with nxt := { s.nxt with act := relocked } }) ∧
    (s.inputs.tick = false ∨ s.cur.act.rArmed = false ∨ s.cur.act.rRem ≠ 1#32 →
      exec .relockFire s = .next s)

/-- O37. In a cycle that accepts no command and either is no tick or finds neither a pulse nor a
relock, ACT_CYCLE changes nothing but the relock cancel of a CTRL write with bit 1 at 0 and the
CMD_REJ of a refused command. (R201, R272.) -/
def Obligations.ActCycleHolds : Prop :=
  ∀ s : State,
    s.inputs.tick = false ∨ (s.cur.act.pActive = false ∧ s.cur.act.rArmed = false) →
    ¬((s.command = some .lock ∨ s.command = some .unlock) ∧ s.cur.act.pActive = false) →
    let cancel := fun a : Actuator =>
      if s.clearsCtrl 1 then { a with rArmed := false, rRem := 0#32 } else a
    exec .actCycle s =
      .next { s with
        nxt := { s.nxt with act := cancel s.nxt.act }
        raised := s.raised |||
          (if s.command = none ∨ s.command = some .nop then 0#11 else 0x040#11) }

/-- O38. In every cycle that is no reset, an event flag is 1 at the end exactly when its cause in
the table of R261 occurred in the cycle, or it was 1 at the start and the host did not write its
STATUS bit as 1. So no other instruction, level or unit sets or clears a flag, and a flag raised
in the cycle of its clear stays 1. (R224, R261, R266.) -/
def Obligations.EventFlagRule : Prop :=
  ∀ s t : State, s.inputs.rst = false → step s = .next t →
    ∀ e : Event, t.cur.flag e = true ↔
      s.Causes e ∨ (s.cur.flag e = true ∧ ¬s.Acknowledges e)

/-- O39. In a cycle that is no reset: while CARD_VALID = 1 at its start no CARD register changes,
and while ERR_VALID = 1 no ERR register changes. Also, CARD registers change only in a cycle that
closes a frame of supported length, and ERR registers only in one that closes a frame of another
length. A close while CARD_VALID = 1 raises CARD_OVR even if the host clears CARD_VALID in that
cycle, and CARD_VALID then ends at 0. (R38, R154, R266.) -/
def Obligations.HoldingRule : Prop :=
  ∀ s t : State, s.inputs.rst = false → step s = .next t →
    (s.cur.flag .cardValid = true ∨ ¬(s.ClosesFrame ∧ SupportedLength s.cur.wd.count) →
      t.cur.cardLo = s.cur.cardLo ∧ t.cur.cardHi = s.cur.cardHi ∧
      t.cur.cardInfo = s.cur.cardInfo ∧ t.cur.cardNum = s.cur.cardNum) ∧
    (s.cur.flag .errValid = true ∨ ¬(s.ClosesFrame ∧ ¬SupportedLength s.cur.wd.count) →
      t.cur.errLo = s.cur.errLo ∧ t.cur.errHi = s.cur.errHi ∧ t.cur.errLen = s.cur.errLen) ∧
    (s.ClosesFrame → SupportedLength s.cur.wd.count → s.cur.flag .cardValid = true →
      s.Acknowledges .cardValid → t.cur.flag .cardOvr = true ∧ t.cur.flag .cardValid = false)

/-- O40. In a cycle that writes CTRL with bit 0 at 0 the decoder ends at its stopped values,
CARD_* and ERR_* are kept and no CARD or ERR flag rises. In a cycle that writes CTRL with bit 2+k
at 0, channel k keeps prev and state, loses primed, pend and cnt, and SENS_CHGk does not rise. A
channel that does not run and is not stopped keeps its whole state. (R112, R117, R159, R266.) -/
def Obligations.StopWins : Prop :=
  ∀ s t : State, s.inputs.rst = false → step s = .next t →
    (s.clearsCtrl 0 = true →
      t.cur.wd = { primed := false, prev0 := true, prev1 := true, count := 0#8, shift := 0#64,
                   srem := 0#32 } ∧
      t.cur.cardLo = s.cur.cardLo ∧ t.cur.cardHi = s.cur.cardHi ∧
      t.cur.cardInfo = s.cur.cardInfo ∧ t.cur.cardNum = s.cur.cardNum ∧
      t.cur.errLo = s.cur.errLo ∧ t.cur.errHi = s.cur.errHi ∧ t.cur.errLen = s.cur.errLen ∧
      ∀ e ∈ [Event.cardValid, .cardOvr, .errValid, .errOvr], t.cur.flag e = s.cur.flag e) ∧
    ∀ k : Chan,
      (s.clearsCtrl (2 + k.num) = true →
        t.cur.sn k = { s.cur.sn k with primed := false, pend := false, cnt := 0#32 } ∧
        t.cur.flag (.sensChg k) = s.cur.flag (.sensChg k)) ∧
      (¬s.ChannelRuns k → s.clearsCtrl (2 + k.num) = false → t.cur.sn k = s.cur.sn k)

/-- O41. In cycles that are no reset: (3) an accepted LOCK or UNLOCK on the relock's fire tick
starts its own pulse and leaves no relock armed; (4) LOCK or UNLOCK on the completion tick of a
pulse is refused with CMD_REJ and the pulse still completes; (5) a CTRL write with bit 1 at 0 on a
completion tick leaves no relock armed, whatever the completion would arm. (R195, R196, R266.) -/
def Obligations.ActuatorPriorities : Prop :=
  ∀ s t : State, s.inputs.rst = false → step s = .next t →
    (∀ dir : Bool, s.cur.act.pActive = false → s.written 4#6 = some (if dir then 1#32 else 2#32) →
      t.cur.act.pActive = true ∧ t.cur.act.pDir = dir ∧ t.cur.act.rArmed = false ∧
      t.cur.act.pRem.toNat = max s.cur.pulse.toNat 1 ∧ t.cur.act.locked = s.cur.act.locked ∧
      t.cur.flag .cmdRej = s.cur.flag .cmdRej) ∧
    (∀ dir : Bool, s.PulseEnds → s.written 4#6 = some (if dir then 1#32 else 2#32) →
      t.cur.flag .cmdRej = true ∧ t.cur.act.pActive = false ∧
      (s.FaultSeen → t.cur.flag .lockErr = true ∧ t.cur.act.locked = s.cur.act.locked) ∧
      (¬s.FaultSeen → t.cur.flag .lockDone = true ∧ t.cur.act.locked = s.cur.act.pDir)) ∧
    (s.clearsCtrl 1 = true → t.cur.act.rArmed = false ∧ t.cur.act.rRem = 0#32 ∧
      t.cur.autoRelock = false)

/-- O42. In a cycle that is no reset and no tick: with no transaction the block does not change at
all, whatever the pins; with a transaction the block after the cycle is the same function of it
whatever the pins. The decoder and each channel are as they were unless a CTRL write stops them,
and all of CARD_* and ERR_* are as they were. An accepted LOCK or UNLOCK starts its pulse and
cancels a pending relock; else the actuator, its pulse and relock countdowns included, is as it
was, but that a CTRL write with bit 1 at 0 cancels the relock. An event flag ends at 1 exactly
when it is CMD_REJ and the command was refused, or it was 1 and the host did not clear it. Each
stored register ends at its written value or its old one. (R271, R272.) -/
def Obligations.TimeStopsWithoutTicks : Prop :=
  (∀ s t : State, s.inputs.rst = false → s.inputs.tick = false → s.inputs.bus = [] →
      step s = .next t → t.cur = s.cur) ∧
    (∀ (s t u : State) (p q : Inputs) (ps qs : List Inputs), s.stim = p :: ps → p.rst = false →
      p.tick = false → q.rst = false → q.tick = false → q.bus = p.bus → step s = .next t →
      step { s with stim := q :: qs } = .next u → t.cur = u.cur ∧ t.rdata = u.rdata) ∧
    ∀ s t : State, s.inputs.rst = false → s.inputs.tick = false → step s = .next t →
      t.cur.wd =
        (if s.clearsCtrl 0 then
          { primed := false, prev0 := true, prev1 := true, count := 0#8, shift := 0#64,
            srem := 0#32 }
        else s.cur.wd) ∧
      (∀ k : Chan, t.cur.sn k =
        if s.clearsCtrl (2 + k.num) then
          { s.cur.sn k with primed := false, pend := false, cnt := 0#32 }
        else s.cur.sn k) ∧
      (t.cur.cardLo = s.cur.cardLo ∧ t.cur.cardHi = s.cur.cardHi ∧
        t.cur.cardInfo = s.cur.cardInfo ∧ t.cur.cardNum = s.cur.cardNum ∧
        t.cur.errLo = s.cur.errLo ∧ t.cur.errHi = s.cur.errHi ∧ t.cur.errLen = s.cur.errLen) ∧
      (∀ dir : Bool, s.cur.act.pActive = false →
        s.written 4#6 = some (if dir then 1#32 else 2#32) →
        t.cur.act = { s.cur.act with
          pActive := true, pDir := dir, pRem := BitVec.ofNat 32 (max s.cur.pulse.toNat 1),
          pFault := false, rArmed := false, rRem := 0#32 }) ∧
      (s.cur.act.pActive = true ∨
          (s.written 4#6 ≠ some 1#32 ∧ s.written 4#6 ≠ some 2#32) →
        t.cur.act =
          if s.clearsCtrl 1 then { s.cur.act with rArmed := false, rRem := 0#32 }
          else s.cur.act) ∧
      (∀ e : Event, t.cur.flag e = true ↔
        (e = .cmdRej ∧ s.CommandRefused) ∨ (s.cur.flag e = true ∧ ¬s.Acknowledges e)) ∧
      t.cur.ctrl = ((s.written 1#6).map (· &&& 0xFF#32)).getD s.cur.ctrl ∧
      t.cur.irqEn = ((s.written 3#6).map (· &&& 0x77F#32)).getD s.cur.irqEn ∧
      t.cur.silence = (s.written 5#6).getD s.cur.silence ∧
      t.cur.pulse = (s.written 6#6).getD s.cur.pulse ∧
      t.cur.relock = (s.written 7#6).getD s.cur.relock ∧
      t.cur.debounce0 = (s.written 8#6).getD s.cur.debounce0 ∧
      t.cur.debounce1 = (s.written 9#6).getD s.cur.debounce1 ∧
      t.cur.debounce2 = (s.written 10#6).getD s.cur.debounce2

/-- O43. In every cycle that is no reset, each stored register ends at the value its write gives,
or at its old value when the cycle does not write it; and the units' work of the cycle is that of
the old values: the block after a cycle that writes SILENCE, PULSE, RELOCK, IRQ_EN or DEBOUNCEk is
the block after the same cycle without a transaction, that register apart. (R63, R298.) -/
def Obligations.WritesTakeEffectAtCycleEnd : Prop :=
  (∀ s t : State, s.inputs.rst = false → step s = .next t →
      t.cur.ctrl = ((s.written 1#6).map (· &&& 0xFF#32)).getD s.cur.ctrl ∧
      t.cur.irqEn = ((s.written 3#6).map (· &&& 0x77F#32)).getD s.cur.irqEn ∧
      t.cur.silence = (s.written 5#6).getD s.cur.silence ∧
      t.cur.pulse = (s.written 6#6).getD s.cur.pulse ∧
      t.cur.relock = (s.written 7#6).getD s.cur.relock ∧
      t.cur.debounce0 = (s.written 8#6).getD s.cur.debounce0 ∧
      t.cur.debounce1 = (s.written 9#6).getD s.cur.debounce1 ∧
      t.cur.debounce2 = (s.written 10#6).getD s.cur.debounce2) ∧
    ∀ (s t u : State) (p q : Inputs) (ps qs : List Inputs) (i : RegIndex) (v : Word),
      s.stim = p :: ps → p.rst = false → p.bus = [.txn (writeWord i v)] →
      q = { p with bus := [] } → i = 3#6 ∨ (5 ≤ i.toNat ∧ i.toNat ≤ 10) →
      step s = .next t → step { s with stim := q :: qs } = .next u →
      t.cur = { u.cur with
        irqEn := if i = 3#6 then v &&& 0x77F#32 else u.cur.irqEn
        silence := if i = 5#6 then v else u.cur.silence
        pulse := if i = 6#6 then v else u.cur.pulse
        relock := if i = 7#6 then v else u.cur.relock
        debounce0 := if i = 8#6 then v else u.cur.debounce0
        debounce1 := if i = 9#6 then v else u.cur.debounce1
        debounce2 := if i = 10#6 then v else u.cur.debounce2 }

/-- O44. LOCK_OUT is p_active AND p_dir, UNLOCK_OUT is p_active AND NOT p_dir, the two are never 1
together, and IRQ is 1 exactly when some event flag is 1 whose IRQ_EN bit is 1. (R39.) -/
def Obligations.OutputsAreFunctionsOfState : Prop :=
  ∀ b : Block,
    b.lockOut = (b.act.pActive && b.act.pDir) ∧ b.unlockOut = (b.act.pActive && !b.act.pDir) ∧
    ¬(b.lockOut = true ∧ b.unlockOut = true) ∧
    (b.irq = true ↔ ∃ n, n < 11 ∧ b.flags.getLsbD n = true ∧ b.irqEn.getLsbD n = true)

/-- O45. Take two states and cycles that agree on the tick, the reset line, what is written to
CTRL in bit 2+k, the line of channel k, its CTRL bits 2+k and 5+k, DEBOUNCEk and sn[k]. After the
cycle sn[k] is the same in both, and SENS_CHGk is caused in both or in neither. (R122.) -/
def Obligations.ChannelIndependence : Prop :=
  ∀ (s t s' t' : State) (k : Chan), step s = .next t → step s' = .next t' →
    s.inputs.rst = s'.inputs.rst → s.inputs.tick = s'.inputs.tick →
    s.inputs.sens k = s'.inputs.sens k →
    s.clearsCtrl (2 + k.num) = s'.clearsCtrl (2 + k.num) → s.cur.sensEn k = s'.cur.sensEn k →
    s.cur.sensPol k = s'.cur.sensPol k → s.cur.debounce k = s'.cur.debounce k →
    s.cur.sn k = s'.cur.sn k →
    t.cur.sn k = t'.cur.sn k ∧ (s.Causes (.sensChg k) ↔ s'.Causes (.sensChg k))

/-- O46. Take two states that agree on the actuator, PULSE, RELOCK and AUTO_RELOCK, and whose next
n cycles agree on everything but the data lines and the sensor lines. After n cycles that both
complete they agree on the actuator again, so on LOCK_OUT, UNLOCK_OUT and LOCKED. In particular a
proximity or exit-button change does not unlock the door. (R122, R201.) -/
def Obligations.CardsAndSensorsNeverMoveTheLock : Prop :=
  ∀ (n : Nat) (s t s' t' : State), n ≤ s.stim.length → n ≤ s'.stim.length →
    (∀ i, i < n → ∀ p q, s.stim[i]? = some p → s'.stim[i]? = some q →
      q = { p with d0 := q.d0, d1 := q.d1, sens0 := q.sens0, sens1 := q.sens1, sens2 := q.sens2 }) →
    s.cur.act = s'.cur.act → s.cur.pulse = s'.cur.pulse → s.cur.relock = s'.cur.relock →
    s.cur.autoRelock = s'.cur.autoRelock →
    runCycles n s = .next t → runCycles n s' = .next t' →
    t.cur.act = t'.cur.act ∧ t.cur.lockOut = t'.cur.lockOut ∧ t.cur.unlockOut = t'.cur.unlockOut

/-- O47. From every state whose block satisfies Block.Inv, whether a run reaches it or not, a step
that answers a next state gives one whose block satisfies Block.Inv: R38 (1) to (5), the reserved
bits of the stored registers at 0, and every stopped unit idle. That the state it gives is between
cycles (nxt = cur, nothing raised) is the model's own form (log 1). (R38, R68, R83, R117, R143,
R159, R196, R200.) -/
def Obligations.StepKeepsInvariant : Prop :=
  ∀ s t : State, s.cur.Inv → step s = .next t →
    t.cur.Inv ∧ t.nxt = t.cur ∧ t.raised = 0#11

/-- O48. From every state in strike mode that meets it, every step keeps the promise of R191:
while the block stays in strike mode, an UNLOCKED block has a relock armed or a pulse in progress,
whatever the commands, faults and configuration writes. (Turning strike mode on by a CTRL write
arms nothing by itself, R196, so the premise asks for strike mode at the start of the cycle.)
(R191, R196.) -/
def Obligations.StepKeepsFailSecure : Prop :=
  ∀ s t : State, s.cur.autoRelock = true → s.cur.FailSecure → step s = .next t → t.cur.FailSecure

/-- O49. In a cycle that is no reset LOCKED changes only when a pulse completes with no DRV_FAULT
seen, and then to the pulse's direction; in every other cycle it keeps its value: no command,
fault, relock or configuration write changes it. (R189, R190.) -/
def Obligations.LogicalStateChangesOnlyAtCompletion : Prop :=
  ∀ s t : State, s.inputs.rst = false → step s = .next t →
    (s.PulseEnds ∧ ¬s.FaultSeen → t.cur.act.locked = s.cur.act.pDir) ∧
    (¬(s.PulseEnds ∧ ¬s.FaultSeen) → t.cur.act.locked = s.cur.act.locked)

/-- O50. In a cycle that starts with AUTO_RELOCK = 0 and no relock armed, no relock is armed at
its end, whatever happens: an UNLOCK leaves the actuator UNLOCKED until a LOCK completes. (R200.)
-/
def Obligations.LatchModeNeverArms : Prop :=
  ∀ s t : State, s.cur.autoRelock = false → s.cur.act.rArmed = false → step s = .next t →
    t.cur.act.rArmed = false ∧
    (s.inputs.rst = false → s.cur.act.locked = false →
      ¬(s.PulseEnds ∧ ¬s.FaultSeen ∧ s.cur.act.pDir = true) → t.cur.act.locked = false)

/-- O51. For every well-formed instruction that has an encoding, with every operand at every
value, decode of encode is that instruction. The row WR_CMD is the one exception: its words decode
to the command they carry, the more specific row (log 13). (R80, R82, R84, R98.) -/
def Obligations.EncodeDecodeRoundTrip : Prop :=
  (∀ (i : Instr) (c : Code), i.wf = true → (∀ v, i ≠ .wrCmd v) → encode i = some c →
      decode c = .ok i) ∧
    ∀ v : Word, ∃ c, encode (.wrCmd v) = some c ∧
      decode c = .ok (if v = 0#32 then .nop else if v = 1#32 then .lock
                      else if v = 2#32 then .unlock else .cmdRsvd v)

/-- O52. Every transaction word decodes to a well-formed instruction that has an encoding: a word
with DIR = 1 encodes back to itself, and a word with DIR = 0 to the word of the same index with
DATA 0, which decodes to the same instruction. For DIR = 1 and IDX = 4 the DATA selects NOP, LOCK,
UNLOCK or reserved. (R84, R98.) -/
def Obligations.EveryWordDecodes : Prop :=
  (∀ w : TxnWord, (decodeTxn w).wf = true ∧
      encode (decodeTxn w) = some (.bus (.txn (if txnDir w then w else readWord (txnIdx w)))) ∧
      (txnDir w = false → decodeTxn (readWord (txnIdx w)) = decodeTxn w)) ∧
    ∀ w : TxnWord, txnDir w = true → txnIdx w = 4#6 →
      decodeTxn w =
        if txnData w = 0#32 then .nop else if txnData w = 1#32 then .lock
        else if txnData w = 2#32 then .unlock else .cmdRsvd (txnData w)

/-- O53. Fifteen rows have no encoding: the internal operations, which the block runs itself.
Every other row has one. (R80.) -/
def Obligations.EncodedOrInternal : Prop :=
  ∀ i : Instr, Sys2Proof.Laws.EncodedOrInternal.Statement i

/-- O54. Take a running, primed decoder with an open frame whose countdown is S, and S + 1 coming
cycles that are ticks with idle lines, no transaction and no reset, whatever the sensor lines and
DRV_FAULT. After k ≤ S of them the frame is still open, with its bits and the countdown at S − k.
After S + 1 the frame is empty, and its bits are in CARD_* with CARD_VALID if its length is
supported and CARD_VALID was 0, or in ERR_* with ERR_VALID if it is not and ERR_VALID was 0.
(R144, R145, R157, R304.) -/
def Obligations.SilentFrameCloses : Prop :=
  ∀ s : State, s.cur.wdEn = true → s.cur.wd.primed = true → s.cur.wd.count ≠ 0#8 →
    s.Expects (s.cur.wd.srem.toNat + 1) SilentCycle →
    (∀ k, k ≤ s.cur.wd.srem.toNat → ∃ t, runCycles k s = .next t ∧
      t.cur.wd.count = s.cur.wd.count ∧ t.cur.wd.shift = s.cur.wd.shift ∧
      t.cur.wd.srem.toNat = s.cur.wd.srem.toNat - k) ∧
    ∃ t, runCycles (s.cur.wd.srem.toNat + 1) s = .next t ∧
      t.cur.wd.count = 0#8 ∧ t.cur.wd.shift = 0#64 ∧
      (SupportedLength s.cur.wd.count → s.cur.flag .cardValid = false →
        t.cur.flag .cardValid = true ∧ t.cur.cardLo = s.cur.wd.shift.extractLsb' 0 32 ∧
        t.cur.cardHi = s.cur.wd.shift.extractLsb' 32 32 ∧
        t.cur.cardInfo.extractLsb' 0 8 = s.cur.wd.count) ∧
      (¬SupportedLength s.cur.wd.count → s.cur.flag .errValid = false →
        t.cur.flag .errValid = true ∧ t.cur.errLo = s.cur.wd.shift.extractLsb' 0 32 ∧
        t.cur.errHi = s.cur.wd.shift.extractLsb' 32 32 ∧
        t.cur.errLen = s.cur.wd.count.setWidth 32)

/-- O55. Take a running, primed decoder with both lines idle and no open frame. Let the coming
cycles be one line pulse after another: a pulse is one or more ticks with the line of its bit at
0, then one or more with both lines idle, with no transaction and no reset, whatever the sensor
lines and DRV_FAULT. Let each pulse but the last take at most SILENCE ticks, so that consecutive
bits are at most SILENCE ticks apart, and the last at most SILENCE + 1. After them one frame is
open: its count is the number of pulses, at most 255, its register their bits, and its countdown
SILENCE less the ticks since the last bit. The CARD and ERR flags are as they were. (R81, R83,
R162.) -/
def Obligations.PulseTrainIsReceived : Prop :=
  ∀ (s : State) (qs : List LinePulse) (q : LinePulse) (rest : List Inputs),
    (∀ x ∈ qs, x.OnTicks ∧ x.cycles.length ≤ s.cur.silence.toNat) → q.OnTicks →
    q.cycles.length ≤ s.cur.silence.toNat + 1 →
    s.stim = (qs ++ [q]).flatMap LinePulse.cycles ++ rest → s.cur.wdEn = true →
    s.cur.wd.primed = true → s.cur.wd.prev0 = true → s.cur.wd.prev1 = true →
    s.cur.wd.count = 0#8 → s.cur.wd.shift = 0#64 →
    ∃ t, runCycles ((qs ++ [q]).flatMap LinePulse.cycles).length s = .next t ∧ t.stim = rest ∧
      t.cur.wd.count.toNat = min (qs.length + 1) 255 ∧
      t.cur.wd.shift = frameValue ((qs ++ [q]).map (·.bit)) ∧
      t.cur.wd.srem.toNat = s.cur.silence.toNat - (q.cycles.length - 1) ∧
      t.cur.wd.prev0 = true ∧ t.cur.wd.prev1 = true ∧
      ∀ e ∈ [Event.cardValid, .cardOvr, .errValid, .errOvr], t.cur.flag e = s.cur.flag e

/-- O56. Write P = max(PULSE, 1) and Q = max(RELOCK, 1). From a state in strike mode with no
pulse, let the first cycle write UNLOCK and the next 2P + Q cycles be ticks with no transaction,
no reset and no DRV_FAULT. UNLOCK_OUT is 1 in cycles 1 to P after it; from cycle P + 1 the lock is
UNLOCKED with LOCK_DONE and the relock armed, counting from Q; LOCK_OUT is 1 in cycles P + Q + 1
to 2P + Q; and from cycle 2P + Q + 1 the lock is LOCKED, with no pulse and no relock. (R187, R192,
R305.) -/
def Obligations.PulseAndRelockTiming : Prop :=
  ∀ (s : State) (p : Inputs) (ps : List Inputs), s.stim = p :: ps → p.rst = false →
    p.bus = [.txn (writeWord 4#6 2#32)] → s.cur.act.pActive = false → s.cur.autoRelock = true →
    let P := ticksOf s.cur.pulse
    let Q := ticksOf s.cur.relock
    2 * P + Q ≤ ps.length → (∀ q ∈ ps.take (2 * P + Q), QuietCycle q) →
    (∀ k, k < P → ∃ t, runCycles (1 + k) s = .next t ∧ t.cur.unlockOut = true ∧
      t.cur.lockOut = false ∧ t.cur.act.locked = s.cur.act.locked) ∧
    (∀ k, k < Q → ∃ t, runCycles (1 + P + k) s = .next t ∧ t.cur.unlockOut = false ∧
      t.cur.lockOut = false ∧ t.cur.act.locked = false ∧ t.cur.flag .lockDone = true ∧
      t.cur.act.rArmed = true ∧ t.cur.act.rRem.toNat = Q - k) ∧
    (∀ k, k < P → ∃ t, runCycles (1 + P + Q + k) s = .next t ∧ t.cur.lockOut = true ∧
      t.cur.unlockOut = false ∧ t.cur.act.locked = false ∧ t.cur.act.rArmed = false) ∧
    ∃ t, runCycles (1 + P + Q + P) s = .next t ∧ t.cur.act.locked = true ∧
      t.cur.flag .lockDone = true ∧ t.cur.act.pActive = false ∧ t.cur.act.rArmed = false

/-- O57. Take a running, primed channel k, and 1 + D coming cycles with D = DEBOUNCEk that are
ticks with no transaction and no reset, the first with an edge of the line and the rest at the
same level. After 1 + j of them, j < D, the evaluation is pending and the state is the old one;
after 1 + D the state is the level through the polarity, nothing is pending, and SENS_CHGk is 1 if
that is a change. (R115, R116, R304.) -/
def Obligations.DebouncedEdgePublishes : Prop :=
  ∀ (s : State) (k : Chan) (level : Bool), s.cur.sensEn k = true → (s.cur.sn k).primed = true →
    (s.cur.sn k).prev = !level →
    s.Expects (1 + (s.cur.debounce k).toNat)
      (fun p => p.rst = false ∧ p.tick = true ∧ p.bus = [] ∧ p.sens k = level) →
    (∀ j, j < (s.cur.debounce k).toNat → ∃ t, runCycles (1 + j) s = .next t ∧
      (t.cur.sn k).pend = true ∧ (t.cur.sn k).state = (s.cur.sn k).state ∧
      t.cur.flag (.sensChg k) = s.cur.flag (.sensChg k)) ∧
    ∃ t, runCycles (1 + (s.cur.debounce k).toNat) s = .next t ∧ (t.cur.sn k).pend = false ∧
      (t.cur.sn k).state = xor level (s.cur.sensPol k) ∧
      (xor level (s.cur.sensPol k) ≠ (s.cur.sn k).state → t.cur.flag (.sensChg k) = true)

end
end

