-- ==== Sys2Proof/Laws/Decode.lean ====
section
/-! SUPPORT. Lemmas of the decoder: the fields of a transaction word, and the meaning of the row it
selects as one function of its index (R84, R98, R220). -/

namespace Sys2Proof

/-- The bits of a read's word: IDX at 37:32, all else 0. -/
theorem getLsbD_readWord (i : RegIndex) (n : Nat) :
    (readWord i).getLsbD n = if n < 32 then false else i.getLsbD (n - 32) := by
  change ((0#1 ++ i ++ 0#32 : BitVec (1 + 6 + 32))).getLsbD n = _
  simp only [BitVec.getLsbD_append]
  split
  · simp
  · split
    · rfl
    · rw [BitVec.getLsbD_of_ge i (n - 32) (by omega)]
      simp

/-- The bits of a write's word: DATA at 31:0, IDX at 37:32, DIR at 38. -/
theorem getLsbD_writeWord (i : RegIndex) (v : Word) (n : Nat) :
    (writeWord i v).getLsbD n =
      if n < 32 then v.getLsbD n else if n < 38 then i.getLsbD (n - 32) else decide (n = 38) := by
  change ((1#1 ++ i ++ v : BitVec (1 + 6 + 32))).getLsbD n = _
  simp only [BitVec.getLsbD_append]
  split
  · rfl
  · split
    · rw [if_pos (by omega)]
    · rw [if_neg (by omega)]
      by_cases h : n = 38
      · subst h
        rfl
      · rw [BitVec.getLsbD_of_ge _ _ (by omega)]
        simp [h]

@[simp] theorem txnDir_readWord (i : RegIndex) : txnDir (readWord i) = false := by
  rw [txnDir, getLsbD_readWord, if_neg (by decide), BitVec.getLsbD_of_ge i (38 - 32) (by decide)]

@[simp] theorem txnDir_writeWord (i : RegIndex) (v : Word) : txnDir (writeWord i v) = true := by
  simp [txnDir, getLsbD_writeWord]

@[simp] theorem txnIdx_readWord (i : RegIndex) : txnIdx (readWord i) = i := by
  apply BitVec.eq_of_getLsbD_eq
  intro n hn
  simp [txnIdx, getLsbD_readWord, hn]

@[simp] theorem txnIdx_writeWord (i : RegIndex) (v : Word) : txnIdx (writeWord i v) = i := by
  apply BitVec.eq_of_getLsbD_eq
  intro n hn
  have h : 32 + n < 38 := by omega
  simp [txnIdx, getLsbD_writeWord, hn, h]

@[simp] theorem txnData_writeWord (i : RegIndex) (v : Word) : txnData (writeWord i v) = v := by
  apply BitVec.eq_of_getLsbD_eq
  intro n hn
  simp [txnData, getLsbD_writeWord, hn]

namespace Machine

/-- What a write of `v` to index `n` does in its cycle, by index (R242). -/
def writeEffect (s : State) (n : Nat) (v : Word) : State :=
  match n with
  | 1 => s.putNxt (s.nxt.writeCtrl v)
  | 2 => s.putNxt { s.nxt with flags := s.cur.flags &&& ~~~(clearMask v) }
  | 3 => s.putNxt { s.nxt with irqEn := irqStored v }
  | 4 => s.doCommand (cmdOp v)
  | 5 => s.putNxt { s.nxt with silence := v }
  | 6 => s.putNxt { s.nxt with pulse := v }
  | 7 => s.putNxt { s.nxt with relock := v }
  | 8 => s.putNxt { s.nxt with debounce0 := v }
  | 9 => s.putNxt { s.nxt with debounce1 := v }
  | 10 => s.putNxt { s.nxt with debounce2 := v }
  | _ => s

/-- What a transaction word does in its cycle. -/
def busEffect (s : State) (w : TxnWord) : State :=
  if txnDir w then writeEffect s (txnIdx w).toNat (txnData w)
  else s.answer (s.cur.regRead (txnIdx w))

theorem exec_decodeCmd (v : Word) (s : State) : exec (decodeCmd v) s = .next (s.doCommand (cmdOp v)) := by
  unfold decodeCmd cmdOp
  split
  · rfl
  · split
    · rfl
    · split <;> rfl

theorem exec_readRow (s : State) (i : RegIndex) :
    exec (readRows.getD i.toNat .rdRsvd63) s = .next (s.answer (s.cur.regRead i)) := by
  have h : i.toNat < 64 := i.isLt
  unfold Block.regRead
  generalize i.toNat = n at h
  interval_cases n <;> rfl

theorem exec_writeRow (s : State) (n : Nat) (hn : n < 64) (v : Word) :
    exec (writeRows.getD n .wrRsvd63 v) s = .next (writeEffect s n v) := by
  interval_cases n <;> rfl

/-- Every transaction word decodes to an instruction that completes, with the effect its index names. -/
theorem exec_decodeTxn (w : TxnWord) (s : State) : exec (decodeTxn w) s = .next (busEffect s w) := by
  unfold decodeTxn busEffect
  split
  · split
    · rename_i h
      rw [exec_decodeCmd, h]
      rfl
    · exact exec_writeRow s _ (txnIdx w).isLt _
  · exact exec_readRow s _

end Machine

end Sys2Proof
end

