-- ==== Sys2Proof/Laws/State.lean ====
section
/-! SUPPORT. One lemma per field of State for each update of it (Machine/Ops.lean), true by `rfl`. -/

namespace Sys2Proof.Machine

@[simp] theorem State.putNxt_cur (s : State) (b : Block) : (s.putNxt b).cur = s.cur := rfl
@[simp] theorem State.putNxt_nxt (s : State) (b : Block) : (s.putNxt b).nxt = b := rfl
@[simp] theorem State.putNxt_raised (s : State) (b : Block) : (s.putNxt b).raised = s.raised := rfl
@[simp] theorem State.putNxt_rdata (s : State) (b : Block) : (s.putNxt b).rdata = s.rdata := rfl
@[simp] theorem State.putNxt_stim (s : State) (b : Block) : (s.putNxt b).stim = s.stim := rfl
@[simp] theorem State.putNxt_cycle (s : State) (b : Block) : (s.putNxt b).cycle = s.cycle := rfl

@[simp] theorem State.answer_cur (s : State) (v : Word) : (s.answer v).cur = s.cur := rfl
@[simp] theorem State.answer_nxt (s : State) (v : Word) : (s.answer v).nxt = s.nxt := rfl
@[simp] theorem State.answer_raised (s : State) (v : Word) : (s.answer v).raised = s.raised := rfl
@[simp] theorem State.answer_rdata (s : State) (v : Word) : (s.answer v).rdata = some v := rfl
@[simp] theorem State.answer_stim (s : State) (v : Word) : (s.answer v).stim = s.stim := rfl
@[simp] theorem State.answer_cycle (s : State) (v : Word) : (s.answer v).cycle = s.cycle := rfl

@[simp] theorem State.raise_cur (s : State) (e : Event) : (s.raise e).cur = s.cur := rfl
@[simp] theorem State.raise_nxt (s : State) (e : Event) : (s.raise e).nxt = s.nxt := rfl
@[simp] theorem State.raise_raised (s : State) (e : Event) : (s.raise e).raised = s.raised ||| e.bit := rfl
@[simp] theorem State.raise_rdata (s : State) (e : Event) : (s.raise e).rdata = s.rdata := rfl
@[simp] theorem State.raise_stim (s : State) (e : Event) : (s.raise e).stim = s.stim := rfl
@[simp] theorem State.raise_cycle (s : State) (e : Event) : (s.raise e).cycle = s.cycle := rfl

@[simp] theorem State.beginCycle_cur (s : State) : (s.beginCycle).cur = s.cur := rfl
@[simp] theorem State.beginCycle_nxt (s : State) : (s.beginCycle).nxt = s.cur := rfl
@[simp] theorem State.beginCycle_raised (s : State) : (s.beginCycle).raised = 0#11 := rfl
@[simp] theorem State.beginCycle_rdata (s : State) : (s.beginCycle).rdata = none := rfl
@[simp] theorem State.beginCycle_stim (s : State) : (s.beginCycle).stim = s.stim := rfl
@[simp] theorem State.beginCycle_cycle (s : State) : (s.beginCycle).cycle = s.cycle := rfl

@[simp] theorem State.commit_cur (s : State) : (s.commit).cur = s.formed := rfl
@[simp] theorem State.commit_nxt (s : State) : (s.commit).nxt = s.formed := rfl
@[simp] theorem State.commit_raised (s : State) : (s.commit).raised = 0#11 := rfl
@[simp] theorem State.commit_rdata (s : State) : (s.commit).rdata = s.rdata := rfl
@[simp] theorem State.commit_stim (s : State) : (s.commit).stim = s.stim.tail := rfl
@[simp] theorem State.commit_cycle (s : State) : (s.commit).cycle = s.cycle + 1 := rfl

@[simp] theorem State.resetCycle_cur (s : State) : (s.resetCycle).cur = Block.reset := rfl
@[simp] theorem State.resetCycle_nxt (s : State) : (s.resetCycle).nxt = Block.reset := rfl
@[simp] theorem State.resetCycle_raised (s : State) : (s.resetCycle).raised = 0#11 := rfl
@[simp] theorem State.resetCycle_rdata (s : State) : (s.resetCycle).rdata = if s.inputs.bus.any reqIsRead then some 0#32 else none := rfl
@[simp] theorem State.resetCycle_stim (s : State) : (s.resetCycle).stim = s.stim.tail := rfl
@[simp] theorem State.resetCycle_cycle (s : State) : (s.resetCycle).cycle = s.cycle + 1 := rfl

@[simp] theorem State.putNxt_inputs (s : State) (b : Block) : (s.putNxt b).inputs = s.inputs := rfl
@[simp] theorem State.putNxt_written (s : State) (b : Block) (i : RegIndex) :
    (s.putNxt b).written i = s.written i := rfl
@[simp] theorem State.putNxt_clearsCtrl (s : State) (b : Block) (n : Nat) :
    (s.putNxt b).clearsCtrl n = s.clearsCtrl n := rfl
@[simp] theorem State.putNxt_command (s : State) (b : Block) : (s.putNxt b).command = s.command := rfl

@[simp] theorem State.answer_inputs (s : State) (v : Word) : (s.answer v).inputs = s.inputs := rfl
@[simp] theorem State.answer_written (s : State) (v : Word) (i : RegIndex) :
    (s.answer v).written i = s.written i := rfl
@[simp] theorem State.answer_clearsCtrl (s : State) (v : Word) (n : Nat) :
    (s.answer v).clearsCtrl n = s.clearsCtrl n := rfl
@[simp] theorem State.answer_command (s : State) (v : Word) : (s.answer v).command = s.command := rfl

@[simp] theorem State.raise_inputs (s : State) (e : Event) : (s.raise e).inputs = s.inputs := rfl
@[simp] theorem State.raise_written (s : State) (e : Event) (i : RegIndex) :
    (s.raise e).written i = s.written i := rfl
@[simp] theorem State.raise_clearsCtrl (s : State) (e : Event) (n : Nat) :
    (s.raise e).clearsCtrl n = s.clearsCtrl n := rfl
@[simp] theorem State.raise_command (s : State) (e : Event) : (s.raise e).command = s.command := rfl

@[simp] theorem State.beginCycle_inputs (s : State) : (s.beginCycle).inputs = s.inputs := rfl
@[simp] theorem State.beginCycle_written (s : State) (i : RegIndex) :
    (s.beginCycle).written i = s.written i := rfl
@[simp] theorem State.beginCycle_clearsCtrl (s : State) (n : Nat) :
    (s.beginCycle).clearsCtrl n = s.clearsCtrl n := rfl
@[simp] theorem State.beginCycle_command (s : State) : (s.beginCycle).command = s.command := rfl

/-- A cycle's inputs are those at the head of the stimulus. -/
theorem State.inputs_of_stim {s : State} {p : Inputs} {ps : List Inputs} (h : s.stim = p :: ps) :
    s.inputs = p := by
  simp [State.inputs, h]

/-- The inputs depend on the stimulus and the cycle number alone. -/
theorem State.inputs_congr {s t : State} (h : t.stim = s.stim) (hc : t.cycle = s.cycle) :
    t.inputs = s.inputs := by
  simp [State.inputs, h, hc]

/-- What the cycle writes depends on the inputs alone. -/
theorem State.written_congr {s t : State} (h : t.inputs = s.inputs) (i : RegIndex) :
    t.written i = s.written i := by
  simp [State.written, h]

theorem State.clearsCtrl_congr {s t : State} (h : t.inputs = s.inputs) (n : Nat) :
    t.clearsCtrl n = s.clearsCtrl n := by
  simp [State.clearsCtrl, State.written_congr h]

theorem State.command_congr {s t : State} (h : t.inputs = s.inputs) : t.command = s.command := by
  simp [State.command, State.written_congr h]

@[simp] theorem State.formed_ctrl (s : State) : s.formed.ctrl = s.nxt.ctrl := rfl
@[simp] theorem State.formed_irqEn (s : State) : s.formed.irqEn = s.nxt.irqEn := rfl
@[simp] theorem State.formed_silence (s : State) : s.formed.silence = s.nxt.silence := rfl
@[simp] theorem State.formed_pulse (s : State) : s.formed.pulse = s.nxt.pulse := rfl
@[simp] theorem State.formed_relock (s : State) : s.formed.relock = s.nxt.relock := rfl
@[simp] theorem State.formed_debounce0 (s : State) : s.formed.debounce0 = s.nxt.debounce0 := rfl
@[simp] theorem State.formed_debounce1 (s : State) : s.formed.debounce1 = s.nxt.debounce1 := rfl
@[simp] theorem State.formed_debounce2 (s : State) : s.formed.debounce2 = s.nxt.debounce2 := rfl
@[simp] theorem State.formed_cardLo (s : State) : s.formed.cardLo = s.nxt.cardLo := rfl
@[simp] theorem State.formed_cardHi (s : State) : s.formed.cardHi = s.nxt.cardHi := rfl
@[simp] theorem State.formed_cardInfo (s : State) : s.formed.cardInfo = s.nxt.cardInfo := rfl
@[simp] theorem State.formed_cardNum (s : State) : s.formed.cardNum = s.nxt.cardNum := rfl
@[simp] theorem State.formed_errLo (s : State) : s.formed.errLo = s.nxt.errLo := rfl
@[simp] theorem State.formed_errHi (s : State) : s.formed.errHi = s.nxt.errHi := rfl
@[simp] theorem State.formed_errLen (s : State) : s.formed.errLen = s.nxt.errLen := rfl
@[simp] theorem State.formed_wd (s : State) : s.formed.wd = s.nxt.wd := rfl
@[simp] theorem State.formed_sn0 (s : State) : s.formed.sn0 = s.nxt.sn0 := rfl
@[simp] theorem State.formed_sn1 (s : State) : s.formed.sn1 = s.nxt.sn1 := rfl
@[simp] theorem State.formed_sn2 (s : State) : s.formed.sn2 = s.nxt.sn2 := rfl
@[simp] theorem State.formed_act (s : State) : s.formed.act = s.nxt.act := rfl
@[simp] theorem State.formed_flags (s : State) : s.formed.flags = s.nxt.flags ||| s.raised := rfl

@[simp] theorem Block.putSn_ctrl (b : Block) (k : Chan) (c : Channel) : (b.putSn k c).ctrl = b.ctrl := by
  cases k <;> rfl
@[simp] theorem Block.putSn_irqEn (b : Block) (k : Chan) (c : Channel) : (b.putSn k c).irqEn = b.irqEn := by
  cases k <;> rfl
@[simp] theorem Block.putSn_silence (b : Block) (k : Chan) (c : Channel) : (b.putSn k c).silence = b.silence := by
  cases k <;> rfl
@[simp] theorem Block.putSn_pulse (b : Block) (k : Chan) (c : Channel) : (b.putSn k c).pulse = b.pulse := by
  cases k <;> rfl
@[simp] theorem Block.putSn_relock (b : Block) (k : Chan) (c : Channel) : (b.putSn k c).relock = b.relock := by
  cases k <;> rfl
@[simp] theorem Block.putSn_debounce0 (b : Block) (k : Chan) (c : Channel) : (b.putSn k c).debounce0 = b.debounce0 := by
  cases k <;> rfl
@[simp] theorem Block.putSn_debounce1 (b : Block) (k : Chan) (c : Channel) : (b.putSn k c).debounce1 = b.debounce1 := by
  cases k <;> rfl
@[simp] theorem Block.putSn_debounce2 (b : Block) (k : Chan) (c : Channel) : (b.putSn k c).debounce2 = b.debounce2 := by
  cases k <;> rfl
@[simp] theorem Block.putSn_flags (b : Block) (k : Chan) (c : Channel) : (b.putSn k c).flags = b.flags := by
  cases k <;> rfl
@[simp] theorem Block.putSn_cardLo (b : Block) (k : Chan) (c : Channel) : (b.putSn k c).cardLo = b.cardLo := by
  cases k <;> rfl
@[simp] theorem Block.putSn_cardHi (b : Block) (k : Chan) (c : Channel) : (b.putSn k c).cardHi = b.cardHi := by
  cases k <;> rfl
@[simp] theorem Block.putSn_cardInfo (b : Block) (k : Chan) (c : Channel) : (b.putSn k c).cardInfo = b.cardInfo := by
  cases k <;> rfl
@[simp] theorem Block.putSn_cardNum (b : Block) (k : Chan) (c : Channel) : (b.putSn k c).cardNum = b.cardNum := by
  cases k <;> rfl
@[simp] theorem Block.putSn_errLo (b : Block) (k : Chan) (c : Channel) : (b.putSn k c).errLo = b.errLo := by
  cases k <;> rfl
@[simp] theorem Block.putSn_errHi (b : Block) (k : Chan) (c : Channel) : (b.putSn k c).errHi = b.errHi := by
  cases k <;> rfl
@[simp] theorem Block.putSn_errLen (b : Block) (k : Chan) (c : Channel) : (b.putSn k c).errLen = b.errLen := by
  cases k <;> rfl
@[simp] theorem Block.putSn_wd (b : Block) (k : Chan) (c : Channel) : (b.putSn k c).wd = b.wd := by
  cases k <;> rfl
@[simp] theorem Block.putSn_act (b : Block) (k : Chan) (c : Channel) : (b.putSn k c).act = b.act := by
  cases k <;> rfl
@[simp] theorem Block.putSn_sn (b : Block) (k j : Chan) (c : Channel) :
    (b.putSn k c).sn j = if j = k then c else b.sn j := by
  cases k <;> cases j <;> rfl

end Sys2Proof.Machine
end

