-- ==== Sys2Proof/Laws/Ops.lean ====
section
/-! SUPPORT. For each shared operation of Machine/Ops.lean, what it does to the machine, said once. Later
proofs cite these instead of unfolding the operation. -/

namespace Sys2Proof.Machine

/-! ### A state in formation -/

/-- The state with another block in formation and other events raised: everything an operation within a
cycle changes, read data apart. -/
def State.form (s : State) (n : Block) (r : FlagVec) : State := { s with nxt := n, raised := r }

@[simp] theorem State.form_cur (s : State) (n : Block) (r : FlagVec) : (s.form n r).cur = s.cur := rfl
@[simp] theorem State.form_nxt (s : State) (n : Block) (r : FlagVec) : (s.form n r).nxt = n := rfl
@[simp] theorem State.form_raised (s : State) (n : Block) (r : FlagVec) : (s.form n r).raised = r := rfl
@[simp] theorem State.form_rdata (s : State) (n : Block) (r : FlagVec) :
    (s.form n r).rdata = s.rdata := rfl
@[simp] theorem State.form_stim (s : State) (n : Block) (r : FlagVec) :
    (s.form n r).stim = s.stim := rfl
@[simp] theorem State.form_cycle (s : State) (n : Block) (r : FlagVec) :
    (s.form n r).cycle = s.cycle := rfl
@[simp] theorem State.form_inputs (s : State) (n : Block) (r : FlagVec) :
    (s.form n r).inputs = s.inputs := rfl
@[simp] theorem State.form_clearsCtrl (s : State) (n : Block) (r : FlagVec) (i : Nat) :
    (s.form n r).clearsCtrl i = s.clearsCtrl i := rfl
@[simp] theorem State.form_form (s : State) (n m : Block) (r q : FlagVec) :
    (s.form n r).form m q = s.form m q := rfl

/-! ### Frames -/

/-- A frame of the given length is loaded as a CardRead or reported as discarded (R82). -/
def supported (len : FrameCount) : Bool := len == 26#8 || len == 32#8 || len == 34#8 || len == 64#8

/-- The CardRead of a supported frame (R96). -/
def cardOf (len : FrameCount) (v : FrameReg) : CardRead :=
  if len = 26#8 then cardW26 v else if len = 32#8 then cardW32
  else if len = 34#8 then cardW34 v else cardW64

theorem State.loadCard_eq (s : State) (v : FrameReg) (c : CardRead) :
    s.loadCard v c =
      if s.cur.flag .cardValid then s.raise .cardOvr
      else
        (s.putNxt { s.nxt with cardLo := v.extractLsb' 0 32, cardHi := v.extractLsb' 32 32,
                               cardInfo := c.info, cardNum := c.num }).raise .cardValid := rfl

theorem State.loadErr_eq (s : State) (len : FrameCount) (v : FrameReg) :
    s.loadErr len v =
      if s.cur.flag .errValid then s.raise .errOvr
      else
        (s.putNxt { s.nxt with errLo := v.extractLsb' 0 32, errHi := v.extractLsb' 32 32,
                               errLen := len.setWidth 32 }).raise .errValid := rfl

theorem State.closeFrame_eq (s : State) (len : FrameCount) (v : FrameReg) :
    s.closeFrame len v =
      if supported len then s.loadCard v (cardOf len v) else s.loadErr len v := by
  unfold State.closeFrame supported cardOf
  by_cases h26 : len = 26#8
  · simp [h26]
  by_cases h32 : len = 32#8
  · simp [h32]
  by_cases h34 : len = 34#8
  · simp [h34]
  by_cases h64 : len = 64#8 <;> simp [h26, h32, h34, h64]

/-- The event a close raises (R148). -/
def closeEvent (b : Block) (len : FrameCount) : Event :=
  if supported len then (if b.flag .cardValid then .cardOvr else .cardValid)
  else (if b.flag .errValid then .errOvr else .errValid)

/-- The block a close leaves, formed from `n` in a cycle that starts at `b` (R148, R154, R155). -/
def closedBlock (b n : Block) (len : FrameCount) (v : FrameReg) : Block :=
  if supported len then
    if b.flag .cardValid then n
    else { n with cardLo := v.extractLsb' 0 32, cardHi := v.extractLsb' 32 32,
                  cardInfo := (cardOf len v).info, cardNum := (cardOf len v).num }
  else
    if b.flag .errValid then n
    else { n with errLo := v.extractLsb' 0 32, errHi := v.extractLsb' 32 32,
                  errLen := len.setWidth 32 }

/-- All a close does: it writes the holding registers it loads and raises exactly one event. -/
theorem State.closeFrame_spec (s : State) (len : FrameCount) (v : FrameReg) :
    s.closeFrame len v =
      (s.putNxt (closedBlock s.cur s.nxt len v)).raise (closeEvent s.cur len) := by
  rw [State.closeFrame_eq, State.loadCard_eq, State.loadErr_eq]
  unfold closedBlock closeEvent
  split <;> split <;> rfl

/-! ### The decoder -/

/-- The decoder runs a tick in this cycle (R147). -/
def State.wdRuns (s : State) : Bool := s.inputs.tick && !s.clearsCtrl 0 && s.cur.wdEn

/-- The decoder closes a frame in this cycle (R145, R147). -/
def State.wdCloses (s : State) : Bool := s.wdRuns && s.cur.wd.primed && s.cur.wd.closes

/-- The decoder after a tick that runs. -/
def State.wdTicked (s : State) : Decoder :=
  if s.cur.wd.primed then s.cur.wd.sample s.cur.silence s.inputs.d0 s.inputs.d1
  else s.cur.wd.prime s.inputs.d0 s.inputs.d1

/-- The block `n` in formation with the holding registers that the decoder's part of the cycle loads. -/
def State.wdHeld (s : State) (n : Block) : Block :=
  if s.wdCloses then closedBlock s.cur n s.cur.wd.count s.cur.wd.shift else n

@[simp] theorem State.wdHeld_ctrl (s : State) (n : Block) : (s.wdHeld n).ctrl = n.ctrl := by
  unfold State.wdHeld closedBlock; repeat' split
  all_goals rfl
@[simp] theorem State.wdHeld_irqEn (s : State) (n : Block) : (s.wdHeld n).irqEn = n.irqEn := by
  unfold State.wdHeld closedBlock; repeat' split
  all_goals rfl
@[simp] theorem State.wdHeld_silence (s : State) (n : Block) : (s.wdHeld n).silence = n.silence := by
  unfold State.wdHeld closedBlock; repeat' split
  all_goals rfl
@[simp] theorem State.wdHeld_pulse (s : State) (n : Block) : (s.wdHeld n).pulse = n.pulse := by
  unfold State.wdHeld closedBlock; repeat' split
  all_goals rfl
@[simp] theorem State.wdHeld_relock (s : State) (n : Block) : (s.wdHeld n).relock = n.relock := by
  unfold State.wdHeld closedBlock; repeat' split
  all_goals rfl
@[simp] theorem State.wdHeld_debounce0 (s : State) (n : Block) : (s.wdHeld n).debounce0 = n.debounce0 := by
  unfold State.wdHeld closedBlock; repeat' split
  all_goals rfl
@[simp] theorem State.wdHeld_debounce1 (s : State) (n : Block) : (s.wdHeld n).debounce1 = n.debounce1 := by
  unfold State.wdHeld closedBlock; repeat' split
  all_goals rfl
@[simp] theorem State.wdHeld_debounce2 (s : State) (n : Block) : (s.wdHeld n).debounce2 = n.debounce2 := by
  unfold State.wdHeld closedBlock; repeat' split
  all_goals rfl
@[simp] theorem State.wdHeld_flags (s : State) (n : Block) : (s.wdHeld n).flags = n.flags := by
  unfold State.wdHeld closedBlock; repeat' split
  all_goals rfl
@[simp] theorem State.wdHeld_wd (s : State) (n : Block) : (s.wdHeld n).wd = n.wd := by
  unfold State.wdHeld closedBlock; repeat' split
  all_goals rfl
@[simp] theorem State.wdHeld_sn0 (s : State) (n : Block) : (s.wdHeld n).sn0 = n.sn0 := by
  unfold State.wdHeld closedBlock; repeat' split
  all_goals rfl
@[simp] theorem State.wdHeld_sn1 (s : State) (n : Block) : (s.wdHeld n).sn1 = n.sn1 := by
  unfold State.wdHeld closedBlock; repeat' split
  all_goals rfl
@[simp] theorem State.wdHeld_sn2 (s : State) (n : Block) : (s.wdHeld n).sn2 = n.sn2 := by
  unfold State.wdHeld closedBlock; repeat' split
  all_goals rfl
@[simp] theorem State.wdHeld_act (s : State) (n : Block) : (s.wdHeld n).act = n.act := by
  unfold State.wdHeld closedBlock; repeat' split
  all_goals rfl

/-- The block after the decoder's part of a cycle, formed from `n`. -/
def State.wdBlock (s : State) (n : Block) : Block :=
  { s.wdHeld n with wd := if s.wdRuns then s.wdTicked else n.wd }

/-- The events of the decoder's part of a cycle. -/
def State.wdEvents (s : State) : FlagVec :=
  if s.wdCloses then (closeEvent s.cur s.cur.wd.count).bit else 0#11

/-- All a decoder tick does. -/
theorem State.wdTick_spec (s : State) :
    s.wdTick = s.form (s.wdBlock s.nxt) (s.raised ||| s.wdEvents) := by
  unfold State.wdTick State.wdBlock State.wdHeld State.wdEvents State.wdCloses State.wdRuns State.wdTicked
  dsimp only
  cases s.inputs.tick <;> cases s.clearsCtrl 0 <;> cases s.cur.wdEn <;> cases s.cur.wd.primed <;>
    simp only [Bool.not_true, Bool.not_false, Bool.or_true, Bool.or_false,
      Bool.true_and, Bool.false_and, Bool.and_true, Bool.and_false,
      if_true, if_false, Bool.false_eq_true, BitVec.or_zero]
  all_goals first
    | rfl
    | (cases s.cur.wd.closes <;>
        simp only [Bool.false_eq_true, reduceIte, BitVec.or_zero, State.closeFrame_spec] <;> rfl)

@[simp] theorem State.form_wdHeld (s : State) (n m : Block) (r : FlagVec) :
    (s.form n r).wdHeld m = s.wdHeld m := rfl
@[simp] theorem State.form_wdEvents (s : State) (n : Block) (r : FlagVec) :
    (s.form n r).wdEvents = s.wdEvents := rfl

/-! ### Sensor channels -/

/-- Channel k runs a tick in this cycle (R112). -/
def State.snRuns (s : State) (k : Chan) : Bool :=
  s.inputs.tick && !s.clearsCtrl (sensEnBit k) && s.cur.sensEn k

/-- Channel k after a tick that runs. -/
def State.snTicked (s : State) (k : Chan) : Channel :=
  if (s.cur.sn k).primed then
    (s.cur.sn k).sample (s.inputs.sens k) (s.cur.sensPol k) (s.cur.debounce k)
  else (s.cur.sn k).prime (s.inputs.sens k)

/-- Channel k publishes a change in this cycle (R115). -/
def State.snPublishes (s : State) (k : Chan) : Bool :=
  s.snRuns k && (s.cur.sn k).primed &&
    (s.cur.sn k).publishes (s.inputs.sens k) (s.cur.sensPol k) (s.cur.debounce k)

/-- The block after channel k's part of a cycle, formed from `n`. -/
def State.snBlock (s : State) (k : Chan) (n : Block) : Block :=
  n.putSn k (if s.snRuns k then s.snTicked k else n.sn k)

/-- The events of channel k's part of a cycle. -/
def State.snEvents (s : State) (k : Chan) : FlagVec :=
  if s.snPublishes k then (Event.sensChg k).bit else 0#11

/-- All a channel tick does. -/
theorem State.sensTick_spec (s : State) (k : Chan) :
    s.sensTick k = s.form (s.snBlock k s.nxt) (s.raised ||| s.snEvents k) := by
  unfold State.sensTick State.snBlock State.snEvents State.snPublishes State.snRuns State.snTicked
  dsimp only
  have hput : s.nxt.putSn k (s.nxt.sn k) = s.nxt := by cases k <;> rfl
  cases s.inputs.tick <;> cases s.clearsCtrl (sensEnBit k) <;> cases s.cur.sensEn k <;>
    cases (s.cur.sn k).primed <;>
    simp only [Bool.not_true, Bool.not_false, Bool.or_true, Bool.or_false,
      Bool.true_and, Bool.false_and, Bool.and_true, Bool.and_false,
      Bool.false_eq_true, reduceIte, BitVec.or_zero, hput]
  all_goals first
    | rfl
    | (cases (s.cur.sn k).publishes (s.inputs.sens k) (s.cur.sensPol k) (s.cur.debounce k) <;>
        simp only [Bool.false_eq_true, reduceIte, BitVec.or_zero] <;> rfl)

@[simp] theorem State.form_snRuns (s : State) (n : Block) (r : FlagVec) (k : Chan) :
    (s.form n r).snRuns k = s.snRuns k := rfl
@[simp] theorem State.form_snTicked (s : State) (n : Block) (r : FlagVec) (k : Chan) :
    (s.form n r).snTicked k = s.snTicked k := rfl
@[simp] theorem State.form_snEvents (s : State) (n : Block) (r : FlagVec) (k : Chan) :
    (s.form n r).snEvents k = s.snEvents k := rfl

/-! ### The actuator -/

/-- The event a command raises at once (R185, R186). -/
def commandEvents (b : Block) : Option CmdOp → FlagVec
  | none => 0#11
  | some .nop => 0#11
  | some .lock => if b.act.pActive then Event.cmdRej.bit else 0#11
  | some .unlock => if b.act.pActive then Event.cmdRej.bit else 0#11
  | some .reserved => Event.cmdRej.bit

/-- The actuator a command leaves, formed from `a` (R183, R184). -/
def commandAct (b : Block) (a : Actuator) : Option CmdOp → Actuator
  | none => a
  | some .nop => a
  | some .lock => if b.act.pActive then a else (a.startPulse true b.pulse).disarm
  | some .unlock => if b.act.pActive then a else (a.startPulse false b.pulse).disarm
  | some .reserved => a

/-- All a command does in the cycle of its write. -/
theorem State.doCommand_spec (s : State) (op : CmdOp) :
    s.doCommand op =
      s.form { s.nxt with act := commandAct s.cur s.nxt.act (some op) }
        (s.raised ||| commandEvents s.cur (some op)) := by
  cases op <;> cases h : s.cur.act.pActive <;>
    simp [State.doCommand, State.tryPulse, commandAct, commandEvents, h, State.raise,
      State.acceptPulse, State.putNxt, State.form]

/-- What a tick does to the actuator in a cycle that accepts no command, formed from `a`: progress or
completion of a pulse, else countdown or fire of a relock (R187 to R193). -/
def tickAct (s : State) (a : Actuator) : Actuator :=
  if s.cur.act.pActive then
    if s.cur.act.pRem - 1#32 = 0#32 then
      let c := { a with pActive := false, pRem := 0#32, pFault := false, locked := s.lockedAfter }
      if s.cur.autoRelock && !s.lockedAfter then c.arm s.cur.relock else c
    else { a with pRem := s.cur.act.pRem - 1#32, pFault := s.pulseFault }
  else if s.cur.act.rArmed then
    if s.cur.act.rRem = 1#32 then
      if s.cur.act.locked then a.disarm else a.disarm.startPulse true s.cur.pulse
    else { a with rRem := s.cur.act.rRem - 1#32 }
  else a

/-- The events of such a tick: a completion's (R189, R190). -/
def tickEvents (s : State) : FlagVec :=
  if s.cur.act.pActive ∧ s.cur.act.pRem - 1#32 = 0#32 then
    (if s.pulseFault then Event.lockErr else Event.lockDone).bit
  else 0#11

/-- The actuator after its part of a cycle, formed from `a` (R201). -/
def State.actFormed (s : State) (a : Actuator) : Actuator :=
  let c := commandAct s.cur a s.command
  let t := if s.accepts || !s.inputs.tick then c else tickAct s c
  if s.clearsCtrl 1 then t.disarm else t

/-- The events of the actuator's part of a cycle (R201). -/
def State.actEvents (s : State) : FlagVec :=
  commandEvents s.cur s.command |||
    (if s.accepts || !s.inputs.tick then 0#11 else tickEvents s)

@[simp] theorem State.form_actFormed (s : State) (n : Block) (r : FlagVec) (a : Actuator) :
    (s.form n r).actFormed a = s.actFormed a := rfl
@[simp] theorem State.form_actEvents (s : State) (n : Block) (r : FlagVec) :
    (s.form n r).actEvents = s.actEvents := rfl

theorem State.pulseTick_spec (s : State) (h : s.cur.act.pActive = true) :
    s.pulseTick =
      s.form { s.nxt with act := tickAct s s.nxt.act } (s.raised ||| tickEvents s) := by
  unfold State.pulseTick tickAct tickEvents
  simp only [h, if_true, true_and]
  split
  · simp only [State.completePulse]
    cases s.cur.autoRelock && !s.lockedAfter <;> cases s.pulseFault <;> rfl
  · simp [State.putNxt, State.form]

theorem State.relockTick_spec (s : State) (h : s.cur.act.pActive = false)
    (hr : s.cur.act.rArmed = true) :
    s.relockTick = s.form { s.nxt with act := tickAct s s.nxt.act } s.raised := by
  unfold State.relockTick tickAct State.fireRelock
  simp only [h, hr, if_true, Bool.false_eq_true, if_false]
  split
  · split <;> rfl
  · rfl

theorem State.commandCycle_spec (s : State) :
    s.commandCycle =
      s.form { s.nxt with act := commandAct s.cur s.nxt.act s.command }
        (s.raised ||| commandEvents s.cur s.command) := by
  unfold State.commandCycle
  cases s.command with
  | none => simp [commandAct, commandEvents, State.form]
  | some op => exact s.doCommand_spec op

theorem State.tickCycle_spec (s : State) :
    s.tickCycle =
      if s.accepts || !s.inputs.tick then s
      else s.form { s.nxt with act := tickAct s s.nxt.act } (s.raised ||| tickEvents s) := by
  unfold State.tickCycle
  split
  · rfl
  · cases hp : s.cur.act.pActive
    · have he : tickEvents s = 0#11 := by simp [tickEvents, hp]
      cases hr : s.cur.act.rArmed
      · simp [tickAct, hp, hr, he, State.form]
      · simp [State.relockTick_spec s hp hr, he]
    · simp [State.pulseTick_spec s hp]

@[simp] theorem State.form_accepts (s : State) (n : Block) (r : FlagVec) :
    (s.form n r).accepts = s.accepts := rfl
@[simp] theorem form_tickAct (s : State) (n : Block) (r : FlagVec) (a : Actuator) :
    tickAct (s.form n r) a = tickAct s a := rfl
@[simp] theorem form_tickEvents (s : State) (n : Block) (r : FlagVec) :
    tickEvents (s.form n r) = tickEvents s := rfl

/-- All the actuator does in a cycle. -/
theorem State.actCycle_spec (s : State) :
    s.actCycle =
      s.form { s.nxt with act := s.actFormed s.nxt.act } (s.raised ||| s.actEvents) := by
  unfold State.actCycle State.actFormed State.actEvents
  rw [State.commandCycle_spec, State.tickCycle_spec]
  simp only [State.form_accepts, State.form_inputs, form_tickAct, form_tickEvents, State.form_nxt,
    State.form_raised, State.form_form]
  by_cases hg : (s.accepts || !s.inputs.tick) = true <;> by_cases h : s.clearsCtrl 1 = true <;>
    simp only [hg, h, if_true, if_false, Bool.false_eq_true, BitVec.or_assoc, BitVec.or_zero] <;> rfl

end Sys2Proof.Machine
end

