-- ==== Sys2Proof/Laws/Cycle.lean ====
section
/-! SUPPORT. A whole cycle in closed form: what `step` answers, piece of state by piece of state, as a
function of the block and the inputs at the start of the cycle (R8, R242). Proofs about a step cite
`step_reset`, `step_refused` and `step_normal`. -/

namespace Sys2Proof.Machine

/-- CTRL after the cycle (R223). -/
def State.ctrlNext (s : State) : Word :=
  match s.written 1#6 with
  | some v => ctrlStored v
  | none => s.cur.ctrl

/-- IRQ_EN after the cycle (R227). -/
def State.irqEnNext (s : State) : Word :=
  match s.written 3#6 with
  | some v => irqStored v
  | none => s.cur.irqEn

/-- The flags a STATUS write of the cycle clears (R224). -/
def State.cleared (s : State) : FlagVec :=
  match s.written 2#6 with
  | some v => clearMask v
  | none => 0#11

/-- The events the units raise in the cycle, the vector `set` (R242). -/
def State.eventsNext (s : State) : FlagVec :=
  s.wdEvents ||| s.snEvents .door ||| s.snEvents .proximity ||| s.snEvents .exitButton ||| s.actEvents

/-- The decoder after the cycle (R147, R159). -/
def State.wdNext (s : State) : Decoder :=
  if s.clearsCtrl 0 then Decoder.stopped else if s.wdRuns then s.wdTicked else s.cur.wd

/-- Channel k after the cycle (R117, R121). -/
def State.snNext (s : State) (k : Chan) : Channel :=
  if s.clearsCtrl (sensEnBit k) then (s.cur.sn k).stop
  else if s.snRuns k then s.snTicked k else s.cur.sn k

/-- The actuator after the cycle (R201). -/
def State.actNext (s : State) : Actuator := s.actFormed s.cur.act

/-- The holding registers after the cycle, as a block (R154, R155). -/
def State.heldNext (s : State) : Block := s.wdHeld s.cur

/-- The block after a cycle that is no reset (R242). -/
def State.nextBlock (s : State) : Block :=
  { ctrl := s.ctrlNext, irqEn := s.irqEnNext
    silence := (s.written 5#6).getD s.cur.silence
    pulse := (s.written 6#6).getD s.cur.pulse
    relock := (s.written 7#6).getD s.cur.relock
    debounce0 := (s.written 8#6).getD s.cur.debounce0
    debounce1 := (s.written 9#6).getD s.cur.debounce1
    debounce2 := (s.written 10#6).getD s.cur.debounce2
    flags := (s.cur.flags &&& ~~~s.cleared) ||| s.eventsNext
    cardLo := s.heldNext.cardLo, cardHi := s.heldNext.cardHi
    cardInfo := s.heldNext.cardInfo, cardNum := s.heldNext.cardNum
    errLo := s.heldNext.errLo, errHi := s.heldNext.errHi, errLen := s.heldNext.errLen
    wd := s.wdNext, sn0 := s.snNext .door, sn1 := s.snNext .proximity, sn2 := s.snNext .exitButton
    act := s.actNext }

/-- The read data of the cycle (R62). -/
def State.rdataNext (s : State) : Option Word :=
  match busTxn s.inputs with
  | some w => if txnDir w then none else some (s.cur.regRead (txnIdx w))
  | none => none

/-- The state after a cycle that is no reset. -/
def State.nextState (s : State) : State :=
  { cur := s.nextBlock, nxt := s.nextBlock, raised := 0#11, rdata := s.rdataNext,
    stim := s.stim.tail, cycle := s.cycle + 1 }

/-! ### Assembling the cycle -/

theorem runAll_unitOps (u : State) :
    runAll unitOps u =
      .next ((((u.wdTick.sensTick .door).sensTick .proximity).sensTick .exitButton).actCycle) := rfl

@[simp] theorem commandAct_disarm (b : Block) (a : Actuator) (c : Option CmdOp) :
    (commandAct b a.disarm c).disarm = (commandAct b a c).disarm := by
  rcases c with _ | op
  · rfl
  · cases op <;> cases h : b.act.pActive <;> simp [commandAct, h] <;> rfl

theorem tickAct_disarm (s : State) {a c : Actuator} (h : a.disarm = c.disarm) :
    (tickAct s a).disarm = (tickAct s c).disarm := by
  rw [Actuator.disarm, Actuator.disarm, Actuator.mk.injEq] at h
  obtain ⟨hl, hp, hd, hr, hf, -, -⟩ := h
  unfold tickAct Actuator.disarm
  dsimp only
  split
  · split
    · split <;> simp [Actuator.arm, hd]
    · simp [hl, hp, hd]
  · split
    · split
      · split <;> simp [Actuator.startPulse, hl, hp, hd, hr, hf]
      · simp [hl, hp, hd, hr, hf]
    · simp [hl, hp, hd, hr, hf]

/-- A relock cancel already made does not change what the actuator's cycle leaves when it cancels. -/
theorem State.actFormed_disarm (s : State) (a : Actuator) (h : s.clearsCtrl 1 = true) :
    s.actFormed a.disarm = s.actFormed a := by
  unfold State.actFormed
  simp only [h, if_true]
  split
  · exact commandAct_disarm _ _ _
  · exact tickAct_disarm s (commandAct_disarm _ _ _)

/-- A command already performed in the cycle leaves the same actuator when performed again (log 15). -/
theorem commandAct_twice (b : Block) (a : Actuator) (c : Option CmdOp) :
    commandAct b (commandAct b a c) c = commandAct b a c := by
  rcases c with _ | op
  · rfl
  · cases op <;> cases h : b.act.pActive <;> simp [commandAct, h] <;> rfl

theorem State.actFormed_command (s : State) (a : Actuator) :
    s.actFormed (commandAct s.cur a s.command) = s.actFormed a := by
  unfold State.actFormed
  rw [commandAct_twice]

/-- A command's events, raised by its own instruction, are among the actuator's. -/
theorem State.commandEvents_or (s : State) :
    commandEvents s.cur s.command ||| s.eventsNext = s.eventsNext := by
  unfold State.eventsNext State.actEvents
  ext i hi
  simp only [BitVec.getElem_or]
  cases (commandEvents s.cur s.command)[i] <;> simp

/-- The block the units' operations leave, formed from `n` with the events `r` (R242). -/
def State.unitsBlock (s : State) (n : Block) (r : FlagVec) : Block :=
  { s.wdHeld n with
    flags := n.flags ||| (r ||| s.eventsNext)
    wd := if s.wdRuns then s.wdTicked else n.wd
    sn0 := if s.snRuns .door then s.snTicked .door else n.sn0
    sn1 := if s.snRuns .proximity then s.snTicked .proximity else n.sn1
    sn2 := if s.snRuns .exitButton then s.snTicked .exitButton else n.sn2
    act := s.actFormed n.act }

/-- The units' operations leave this block in formation, the flags apart. -/
def State.unitsForm (s : State) (n : Block) : Block :=
  let b := s.snBlock .exitButton (s.snBlock .proximity (s.snBlock .door (s.wdBlock n)))
  { b with act := s.actFormed b.act }

theorem State.unitsForm_flags (s : State) (n : Block) (r : FlagVec) :
    { s.unitsForm n with flags := (s.unitsForm n).flags ||| r } =
      { s.wdHeld n with
        flags := n.flags ||| r
        wd := if s.wdRuns then s.wdTicked else n.wd
        sn0 := if s.snRuns .door then s.snTicked .door else n.sn0
        sn1 := if s.snRuns .proximity then s.snTicked .proximity else n.sn1
        sn2 := if s.snRuns .exitButton then s.snTicked .exitButton else n.sn2
        act := s.actFormed n.act } := by
  simp only [State.unitsForm, State.snBlock, Block.putSn, Block.sn, State.wdBlock,
    State.wdHeld_flags, State.wdHeld_sn0, State.wdHeld_sn1, State.wdHeld_sn2, State.wdHeld_act]

/-- The units' operations and the end of the cycle. -/
theorem units_commit (s : State) :
    commitAll (runAll unitOps s) =
      .next { s with cur := s.unitsBlock s.nxt s.raised, nxt := s.unitsBlock s.nxt s.raised,
                     raised := 0#11, stim := s.stim.tail, cycle := s.cycle + 1 } := by
  have h : s.unitsBlock s.nxt s.raised =
      { s.unitsForm s.nxt with
        flags := (s.unitsForm s.nxt).flags ||| (s.raised ||| s.eventsNext) } :=
    (s.unitsForm_flags s.nxt _).symm
  rw [h, runAll_unitOps, State.wdTick_spec, State.sensTick_spec, State.sensTick_spec,
    State.sensTick_spec, State.actCycle_spec]
  simp only [State.form_form, State.form_nxt, State.form_raised, State.form_snEvents,
    State.form_actFormed, State.form_actEvents, commitAll, Host.Outcome.next.injEq, State.eventsNext,
    State.commit, State.formed, State.form_stim, State.form_cycle, BitVec.or_assoc]
  rfl

/-- The units do not read the block in formation, the events raised or the read data. -/
theorem State.unitsBlock_congr (s : State) (n m : Block) (r q : FlagVec) (d : Option Word) :
    ({ s with nxt := n, raised := r, rdata := d } : State).unitsBlock m q = s.unitsBlock m q := rfl

/-- What the bus instruction must have formed for the units to complete the next block. -/
theorem State.unitsBlock_eq (s : State) (n : Block) (r : FlagVec)
    (hctrl : n.ctrl = s.ctrlNext) (hirq : n.irqEn = s.irqEnNext)
    (hcfg : n.silence = (s.written 5#6).getD s.cur.silence ∧
      n.pulse = (s.written 6#6).getD s.cur.pulse ∧ n.relock = (s.written 7#6).getD s.cur.relock ∧
      n.debounce0 = (s.written 8#6).getD s.cur.debounce0 ∧
      n.debounce1 = (s.written 9#6).getD s.cur.debounce1 ∧
      n.debounce2 = (s.written 10#6).getD s.cur.debounce2)
    (hflags : n.flags = s.cur.flags &&& ~~~s.cleared)
    (hr : r ||| s.eventsNext = s.eventsNext)
    (hcard : n.cardLo = s.cur.cardLo ∧ n.cardHi = s.cur.cardHi ∧ n.cardInfo = s.cur.cardInfo ∧
      n.cardNum = s.cur.cardNum ∧ n.errLo = s.cur.errLo ∧ n.errHi = s.cur.errHi ∧
      n.errLen = s.cur.errLen)
    (hwd : n.wd = if s.clearsCtrl 0 then Decoder.stopped else s.cur.wd)
    (hsn : ∀ k, n.sn k = if s.clearsCtrl (sensEnBit k) then (s.cur.sn k).stop else s.cur.sn k)
    (hact : s.actFormed n.act = s.actFormed s.cur.act) :
    s.unitsBlock n r = s.nextBlock := by
  obtain ⟨h5, h6, h7, h8, h9, h10⟩ := hcfg
  obtain ⟨c0, c1, c2, c3, e0, e1, e2⟩ := hcard
  have hheld : (s.wdHeld n).cardLo = s.heldNext.cardLo ∧ (s.wdHeld n).cardHi = s.heldNext.cardHi ∧
      (s.wdHeld n).cardInfo = s.heldNext.cardInfo ∧ (s.wdHeld n).cardNum = s.heldNext.cardNum ∧
      (s.wdHeld n).errLo = s.heldNext.errLo ∧ (s.wdHeld n).errHi = s.heldNext.errHi ∧
      (s.wdHeld n).errLen = s.heldNext.errLen := by
    unfold State.heldNext State.wdHeld closedBlock
    repeat' split
    all_goals simp only [c0, c1, c2, c3, e0, e1, e2, and_self]
  obtain ⟨g0, g1, g2, g3, f0, f1, f2⟩ := hheld
  have hsn' : ∀ k, (if s.snRuns k then s.snTicked k else n.sn k) = s.snNext k := by
    intro k
    unfold State.snNext
    rw [hsn k]
    by_cases hc : s.clearsCtrl (sensEnBit k) = true <;> simp [hc, State.snRuns]
  have hwd' : (if s.wdRuns then s.wdTicked else n.wd) = s.wdNext := by
    unfold State.wdNext
    rw [hwd]
    by_cases hc : s.clearsCtrl 0 = true <;> simp [hc, State.wdRuns]
  have hd := hsn' .door
  have hp := hsn' .proximity
  have he := hsn' .exitButton
  simp only [Block.sn] at hd hp he
  simp only [State.unitsBlock, State.nextBlock, Block.mk.injEq, State.wdHeld_ctrl, State.wdHeld_irqEn,
    State.wdHeld_silence, State.wdHeld_pulse, State.wdHeld_relock, State.wdHeld_debounce0,
    State.wdHeld_debounce1, State.wdHeld_debounce2]
  exact ⟨hctrl, hirq, h5, h6, h7, h8, h9, h10, by rw [hflags, hr], g0, g1, g2, g3, f0, f1, f2, hwd',
    hd, hp, he, hact⟩

theorem State.written_of {s : State} {w : TxnWord} (h : busTxn s.inputs = some w) (i : RegIndex) :
    s.written i = if txnDir w && txnIdx w == i then some (txnData w) else none := by
  simp [State.written, h]

theorem State.written_none {s : State} (h : ∀ w, busTxn s.inputs = some w → txnDir w = false)
    (i : RegIndex) : s.written i = none := by
  unfold State.written
  split
  · rename_i w hw
    simp [h w hw]
  · rfl

theorem and_not_zero (f : FlagVec) : f &&& ~~~0#11 = f := by
  ext i hi
  simp only [BitVec.getElem_and, BitVec.getElem_not, BitVec.getElem_zero, Bool.not_false, Bool.and_true]

/-- A cycle that writes none of the ten writable registers. -/
theorem State.unitsBlock_quiet (s : State)
    (h : ∀ i : RegIndex, 1 ≤ i.toNat → i.toNat ≤ 10 → s.written i = none) :
    s.unitsBlock s.cur 0#11 = s.nextBlock := by
  have h1 := h 1#6 (by decide) (by decide)
  have h2 := h 2#6 (by decide) (by decide)
  have h3 := h 3#6 (by decide) (by decide)
  have hc : ∀ n, s.clearsCtrl n = false := by intro n; simp [State.clearsCtrl, h1]
  apply State.unitsBlock_eq
  · simp [State.ctrlNext, h1]
  · simp [State.irqEnNext, h3]
  · simp [h 5#6 (by decide) (by decide), h 6#6 (by decide) (by decide), h 7#6 (by decide) (by decide),
      h 8#6 (by decide) (by decide), h 9#6 (by decide) (by decide), h 10#6 (by decide) (by decide)]
  · simp only [State.cleared, h2, and_not_zero]
  · simp
  · simp
  · simp [hc]
  · simp [hc]
  · rfl

theorem Block.writeCtrl_fields (b : Block) (v : Word) :
    b.writeCtrl v =
      { b with ctrl := ctrlStored v
               wd := if v.getLsbD 0 then b.wd else Decoder.stopped
               sn0 := if v.getLsbD (sensEnBit .door) then b.sn0 else b.sn0.stop
               sn1 := if v.getLsbD (sensEnBit .proximity) then b.sn1 else b.sn1.stop
               sn2 := if v.getLsbD (sensEnBit .exitButton) then b.sn2 else b.sn2.stop
               act := if v.getLsbD 1 then b.act else b.act.disarm } := by
  unfold Block.writeCtrl
  cases v.getLsbD 0 <;> cases v.getLsbD (sensEnBit .door) <;>
    cases v.getLsbD (sensEnBit .proximity) <;> cases v.getLsbD (sensEnBit .exitButton) <;>
    cases v.getLsbD 1 <;> rfl


/-- A cycle whose transaction writes register `i`. -/
theorem State.unitsBlock_write (s : State) (i : RegIndex) (v : Word)
    (h : ∀ j : RegIndex, s.written j = if i = j then some v else none) :
    ∃ n r, writeEffect s.beginCycle i.toNat v = { s.beginCycle with nxt := n, raised := r } ∧
      s.unitsBlock n r = s.nextBlock := by
  have hidle : (i.toNat = 0 ∨ 10 < i.toNat) →
      ∃ n r, writeEffect s.beginCycle i.toNat v = { s.beginCycle with nxt := n, raised := r } ∧
        s.unitsBlock n r = s.nextBlock := by
    intro hi
    refine ⟨s.cur, 0#11, ?_, s.unitsBlock_quiet ?_⟩
    · unfold writeEffect
      split <;> first | omega | rfl
    · intro j h1 h2
      rw [h j, if_neg]
      intro he
      subst he
      omega
  by_cases hi : i.toNat = 0 ∨ 10 < i.toNat
  · exact hidle hi
  have hcases : i = 1#6 ∨ i = 2#6 ∨ i = 3#6 ∨ i = 4#6 ∨ i = 5#6 ∨ i = 6#6 ∨ i = 7#6 ∨ i = 8#6 ∨
      i = 9#6 ∨ i = 10#6 := by
    bv_omega
  clear hidle hi
  rcases hcases with rfl | rfl | rfl | rfl | rfl | rfl | rfl | rfl | rfl | rfl
  · refine ⟨s.cur.writeCtrl v, 0#11, rfl, ?_⟩
    have hc : ∀ n, s.clearsCtrl n = !v.getLsbD n := by intro n; simp [State.clearsCtrl, h]
    rw [Block.writeCtrl_fields]
    apply State.unitsBlock_eq
    · simp [State.ctrlNext, h]
    · simp [State.irqEnNext, h]
    · simp [h]
    · simp only [State.cleared, h, (by decide : ¬(1#6 = 2#6)), if_false, and_not_zero]
    · simp
    · simp
    · simp only [hc]
      cases v.getLsbD 0 <;> rfl
    · intro k
      cases k <;> simp only [hc, Block.sn]
      · cases v.getLsbD (sensEnBit .door) <;> rfl
      · cases v.getLsbD (sensEnBit .proximity) <;> rfl
      · cases v.getLsbD (sensEnBit .exitButton) <;> rfl
    · simp only
      by_cases hb : v.getLsbD 1 = true
      · rw [if_pos hb]
      · rw [if_neg hb]
        exact s.actFormed_disarm _ (by rw [hc]; simpa using hb)
  · refine ⟨{ s.cur with flags := s.cur.flags &&& ~~~(clearMask v) }, 0#11, rfl, ?_⟩
    have hc : ∀ n, s.clearsCtrl n = false := by intro n; simp [State.clearsCtrl, h]
    apply State.unitsBlock_eq
    · simp [State.ctrlNext, h]
    · simp [State.irqEnNext, h]
    · simp [h]
    · simp only [State.cleared, h, if_true]
    · simp
    · simp
    · simp [hc]
    · intro k
      cases k <;> simp [hc, Block.sn]
    · rfl
  · refine ⟨{ s.cur with irqEn := irqStored v }, 0#11, rfl, ?_⟩
    have hc : ∀ n, s.clearsCtrl n = false := by intro n; simp [State.clearsCtrl, h]
    apply State.unitsBlock_eq
    · simp [State.ctrlNext, h]
    · simp [State.irqEnNext, h]
    · simp [h]
    · simp only [State.cleared, h, (by decide : ¬(3#6 = 2#6)), if_false, and_not_zero]
    · simp
    · simp
    · simp [hc]
    · intro k
      cases k <;> simp [hc, Block.sn]
    · rfl
  · refine ⟨{ s.cur with act := commandAct s.cur s.cur.act s.command }, commandEvents s.cur s.command, ?_, ?_⟩
    · have hcmd : s.command = some (cmdOp v) := by simp [State.command, h]
      change s.beginCycle.doCommand (cmdOp v) = _
      rw [State.doCommand_spec, hcmd]
      simp only [State.beginCycle_cur, State.beginCycle_nxt, State.beginCycle_raised, BitVec.zero_or]
      rfl
    have hc : ∀ n, s.clearsCtrl n = false := by intro n; simp [State.clearsCtrl, h]
    apply State.unitsBlock_eq
    · simp [State.ctrlNext, h]
    · simp [State.irqEnNext, h]
    · simp [h]
    · simp only [State.cleared, h, (by decide : ¬(4#6 = 2#6)), if_false, and_not_zero]
    · exact s.commandEvents_or
    · simp
    · simp [hc]
    · intro k
      cases k <;> simp [hc, Block.sn]
    · exact s.actFormed_command _
  · refine ⟨{ s.cur with silence := v }, 0#11, rfl, ?_⟩
    have hc : ∀ n, s.clearsCtrl n = false := by intro n; simp [State.clearsCtrl, h]
    apply State.unitsBlock_eq
    · simp [State.ctrlNext, h]
    · simp [State.irqEnNext, h]
    · simp [h]
    · simp only [State.cleared, h, (by decide : ¬(5#6 = 2#6)), if_false, and_not_zero]
    · simp
    · simp
    · simp [hc]
    · intro k
      cases k <;> simp [hc, Block.sn]
    · rfl
  · refine ⟨{ s.cur with pulse := v }, 0#11, rfl, ?_⟩
    have hc : ∀ n, s.clearsCtrl n = false := by intro n; simp [State.clearsCtrl, h]
    apply State.unitsBlock_eq
    · simp [State.ctrlNext, h]
    · simp [State.irqEnNext, h]
    · simp [h]
    · simp only [State.cleared, h, (by decide : ¬(6#6 = 2#6)), if_false, and_not_zero]
    · simp
    · simp
    · simp [hc]
    · intro k
      cases k <;> simp [hc, Block.sn]
    · rfl
  · refine ⟨{ s.cur with relock := v }, 0#11, rfl, ?_⟩
    have hc : ∀ n, s.clearsCtrl n = false := by intro n; simp [State.clearsCtrl, h]
    apply State.unitsBlock_eq
    · simp [State.ctrlNext, h]
    · simp [State.irqEnNext, h]
    · simp [h]
    · simp only [State.cleared, h, (by decide : ¬(7#6 = 2#6)), if_false, and_not_zero]
    · simp
    · simp
    · simp [hc]
    · intro k
      cases k <;> simp [hc, Block.sn]
    · rfl
  · refine ⟨{ s.cur with debounce0 := v }, 0#11, rfl, ?_⟩
    have hc : ∀ n, s.clearsCtrl n = false := by intro n; simp [State.clearsCtrl, h]
    apply State.unitsBlock_eq
    · simp [State.ctrlNext, h]
    · simp [State.irqEnNext, h]
    · simp [h]
    · simp only [State.cleared, h, (by decide : ¬(8#6 = 2#6)), if_false, and_not_zero]
    · simp
    · simp
    · simp [hc]
    · intro k
      cases k <;> simp [hc, Block.sn]
    · rfl
  · refine ⟨{ s.cur with debounce1 := v }, 0#11, rfl, ?_⟩
    have hc : ∀ n, s.clearsCtrl n = false := by intro n; simp [State.clearsCtrl, h]
    apply State.unitsBlock_eq
    · simp [State.ctrlNext, h]
    · simp [State.irqEnNext, h]
    · simp [h]
    · simp only [State.cleared, h, (by decide : ¬(9#6 = 2#6)), if_false, and_not_zero]
    · simp
    · simp
    · simp [hc]
    · intro k
      cases k <;> simp [hc, Block.sn]
    · rfl
  · refine ⟨{ s.cur with debounce2 := v }, 0#11, rfl, ?_⟩
    have hc : ∀ n, s.clearsCtrl n = false := by intro n; simp [State.clearsCtrl, h]
    apply State.unitsBlock_eq
    · simp [State.ctrlNext, h]
    · simp [State.irqEnNext, h]
    · simp [h]
    · simp only [State.cleared, h, (by decide : ¬(10#6 = 2#6)), if_false, and_not_zero]
    · simp
    · simp
    · simp [hc]
    · intro k
      cases k <;> simp [hc, Block.sn]
    · rfl

/-! ### The step -/

/-- A cycle with RST = 1 (R290). -/
theorem step_reset {s : State} (h : s.inputs.rst = true) : step s = .next s.resetCycle := by
  simp [step, State.runCycle, h]

/-- A stimulus the model refuses. -/
theorem step_refused {s : State} {r : Refusal} (h : s.inputs.rst = false) (hf : s.fetchBus = .error r) :
    step s = .refused r := by
  simp [step, State.runCycle, h, hf]

theorem State.fetchBus_none {s : State} (h : s.fetchBus = .ok none) : busTxn s.inputs = none := by
  unfold State.fetchBus at h
  unfold busTxn
  split at h
  · rename_i hb
    simp [hb]
  · split at h <;> cases h
  · cases h

theorem State.fetchBus_some {s : State} {i : Instr} (h : s.fetchBus = .ok (some i)) :
    ∃ w, busTxn s.inputs = some w ∧ i = decodeTxn w := by
  unfold State.fetchBus at h
  unfold busTxn
  split at h
  · cases h
  · rename_i r hb
    split at h
    · rename_i w hw
      cases h
      exact ⟨w, by simp [hb, hw, Except.toOption], rfl⟩
    · cases h
  · cases h

/-- A bus instruction's part of the cycle. -/
theorem busEffect_spec {s : State} {w : TxnWord} (h : busTxn s.inputs = some w) :
    ∃ n r, busEffect s.beginCycle w = { s with nxt := n, raised := r, rdata := s.rdataNext } ∧
      s.unitsBlock n r = s.nextBlock := by
  unfold busEffect State.rdataNext
  rw [h]
  simp only
  by_cases hd : txnDir w = true
  · obtain ⟨n, r, he, hb⟩ := s.unitsBlock_write (txnIdx w) (txnData w) (by
      intro j
      rw [State.written_of h]
      simp [hd])
    exact ⟨n, r, by rw [if_pos hd, if_pos hd, he]; rfl, hb⟩
  · refine ⟨s.cur, 0#11, by rw [if_neg hd, if_neg hd]; rfl, s.unitsBlock_quiet ?_⟩
    intro j _ _
    rw [State.written_of h]
    simp [hd]

/-- Every cycle that is no reset and presents what the port takes ends in `nextState`. -/
theorem step_normal {s : State} {i? : Option Instr} (h : s.inputs.rst = false)
    (hf : s.fetchBus = .ok i?) : step s = .next s.nextState := by
  simp only [step, State.runCycle, h, hf, State.normalCycle, Bool.false_eq_true, if_false]
  cases i? with
  | none =>
    have hb := State.fetchBus_none hf
    have hq : s.unitsBlock s.cur 0#11 = s.nextBlock :=
      s.unitsBlock_quiet fun j _ _ => by simp [State.written, hb]
    change commitAll (runAll unitOps s.beginCycle) = _
    rw [units_commit]
    change Host.Outcome.next (State.mk (s.unitsBlock s.cur 0#11) (s.unitsBlock s.cur 0#11) (0#11)
      none s.stim.tail (s.cycle + 1)) = _
    rw [hq, State.nextState]
    simp [State.rdataNext, hb]
  | some i =>
    obtain ⟨w, hw, rfl⟩ := State.fetchBus_some hf
    obtain ⟨n, r, he, hb⟩ := busEffect_spec hw
    have hx : runAll (Option.toList (some (decodeTxn w)) ++ unitOps) s.beginCycle =
        runAll unitOps (busEffect s.beginCycle w) := by
      simp only [Option.toList_some, List.cons_append, List.nil_append, runAll, exec_decodeTxn]
    rw [hx, he, units_commit]
    change Host.Outcome.next (State.mk (s.unitsBlock n r) (s.unitsBlock n r) (0#11) s.rdataNext
      s.stim.tail (s.cycle + 1)) = _
    rw [hb, State.nextState]

end Sys2Proof.Machine
end

