-- ==== Sys2Proof/Laws/Frames.lean ====
section
/-! SUPPORT. Lemmas of frames: the bits of CARD_INFO, parity as a count of ones, and what appending bits
does to the frame register and the count (R12, R31, R83, R143). -/

namespace Sys2Proof

/-! ### Bits in the order received -/

@[simp] theorem length_bitsMsb {w : Nat} (n : Nat) (v : BitVec w) : (bitsMsb n v).length = n := by
  induction n with
  | zero => rfl
  | succ n ih => simp [bitsMsb, ih]

/-- The first `m` of `n + m` bits are the upper ones. -/
theorem take_bitsMsb {w : Nat} (v : BitVec w) (n m : Nat) :
    (bitsMsb (n + m) v).take m = bitsMsb m (v >>> n) := by
  induction m with
  | zero => rfl
  | succ m ih =>
    rw [← Nat.add_assoc, bitsMsb, bitsMsb, List.take_succ_cons, ih, BitVec.getLsbD_ushiftRight]

/-- The last `n` of `n + m` bits are the lower ones. -/
theorem drop_bitsMsb {w : Nat} (v : BitVec w) (n m : Nat) :
    (bitsMsb (n + m) v).drop m = bitsMsb n v := by
  induction m with
  | zero => rfl
  | succ m ih => rw [← Nat.add_assoc, bitsMsb, List.drop_succ_cons, ih]

/-- The bits depend on the value's low bits alone. -/
theorem bitsMsb_congr {w u : Nat} {v : BitVec w} {x : BitVec u} {n : Nat}
    (h : ∀ i, i < n → v.getLsbD i = x.getLsbD i) : bitsMsb n v = bitsMsb n x := by
  induction n with
  | zero => rfl
  | succ n ih =>
    rw [bitsMsb, bitsMsb, h n (Nat.lt_succ_self n), ih fun i hi => h i (Nat.lt_succ_of_lt hi)]

/-! ### The frame register and the count -/

/-- The count of bits appended to a count. -/
theorem toNat_foldl_countUp (bits : List Bool) (c : FrameCount) :
    (bits.foldl (fun c _ => countUp c) c).toNat = min (c.toNat + bits.length) 255 := by
  induction bits generalizing c with
  | nil => simpa using Nat.le_of_lt_succ c.isLt
  | cons b bits ih =>
    rw [List.foldl_cons, ih, List.length_cons]
    unfold countUp
    split
    · rename_i h
      subst h
      simp
    · rename_i h
      have hc : c.toNat < 255 := by
        have := c.isLt
        have : c.toNat ≠ 255 := fun e => h (BitVec.eq_of_toNat_eq (by simpa using e))
        omega
      rw [BitVec.toNat_add, Nat.mod_eq_of_lt (by simp; omega)]
      simp only [BitVec.toNat_ofNat, Nat.reducePow, Nat.reduceMod]
      omega

/-- The bits of the register after an append. -/
theorem getLsbD_appendBit (v : FrameReg) (b : Bool) (n : Nat) :
    (appendBit v b).getLsbD n = if n = 0 then b else decide (n < 64) && v.getLsbD (n - 1) := by
  unfold appendBit
  rw [BitVec.getLsbD_shiftConcat]
  by_cases h : n = 0 <;> simp [h]

/-- The bits of the register after appending bits to it: the last received in bit 0. -/
theorem getLsbD_foldl_appendBit (bits : List Bool) (v : FrameReg) (n : Nat) (hn : n < 64) :
    (bits.foldl appendBit v).getLsbD n =
      if n < bits.length then bits.getD (bits.length - 1 - n) false
      else v.getLsbD (n - bits.length) := by
  induction bits generalizing v with
  | nil => simp
  | cons b bits ih =>
    rw [List.foldl_cons, ih, List.length_cons]
    by_cases h1 : n < bits.length
    · rw [if_pos h1, if_pos (by omega)]
      have e : bits.length + 1 - 1 - n = (bits.length - 1 - n) + 1 := by omega
      rw [e, List.getD_cons_succ]
    · rw [if_neg h1, getLsbD_appendBit]
      by_cases h2 : n = bits.length
      · subst h2
        simp
      · rw [if_neg (by omega), if_neg (by omega)]
        have h64 : n - bits.length < 64 := by omega
        simp only [h64, decide_true, Bool.true_and]
        congr 1

theorem foldl_append_shift (bits : List Bool) (d : Machine.Decoder) :
    (bits.foldl Machine.Decoder.append d).shift = bits.foldl appendBit d.shift := by
  induction bits generalizing d with
  | nil => rfl
  | cons b bits ih => rw [List.foldl_cons, ih]; rfl

theorem foldl_append_count (bits : List Bool) (d : Machine.Decoder) :
    (bits.foldl Machine.Decoder.append d).count = bits.foldl (fun c _ => countUp c) d.count := by
  induction bits generalizing d with
  | nil => rfl
  | cons b bits ih => rw [List.foldl_cons, ih]; rfl

/-- Appending keeps the register within the count (R83). -/
theorem frameFits_append {len : FrameCount} {v : FrameReg} (h : frameFits len v = true) (b : Bool) :
    frameFits (countUp len) (appendBit v b) = true := by
  have hl := toNat_foldl_countUp [b] len
  simp only [List.foldl_cons, List.foldl_nil, List.length_singleton] at hl
  unfold frameFits at h ⊢
  rw [hl]
  by_cases h64 : 64 ≤ min (len.toNat + 1) 255
  · simp [h64]
  · have hlen : len.toNat < 63 := by omega
    have hf : v >>> len.toNat = 0#64 := by
      have h' : ¬64 ≤ len.toNat := by omega
      simpa [h'] using h
    have hs : appendBit v b >>> min (len.toNat + 1) 255 = 0#64 := by
      apply BitVec.eq_of_getLsbD_eq
      intro n hn
      have hv := congrArg (fun x => x.getLsbD n) hf
      simp only [BitVec.getLsbD_ushiftRight, BitVec.getLsbD_zero] at hv ⊢
      rw [getLsbD_appendBit, if_neg (by omega), Nat.min_eq_left (by omega),
        show len.toNat + 1 + n - 1 = len.toNat + n by omega, hv, Bool.and_false]
    simp [hs]

namespace Machine

/-! ### CARD_INFO and parity -/

/-- The bits of CARD_INFO (R31). -/
theorem getLsbD_packInfo (fc : BitVec 8) (numValid fcValid odd even hasParity : Bool) (len : BitVec 8)
    (n : Nat) (hn : n < 32) :
    (packInfo fc numValid fcValid odd even hasParity len).getLsbD n =
      if n < 8 then len.getLsbD n
      else if n = 8 then hasParity
      else if n = 9 then hasParity && even && odd
      else if n = 10 then even
      else if n = 11 then odd
      else if n = 12 then fcValid
      else if n = 13 then numValid
      else if n < 16 then false
      else fc.getLsbD (n - 16) := by
  change (0#8 ++ fc ++ 0#2 ++ BitVec.ofBool numValid ++ BitVec.ofBool fcValid ++ BitVec.ofBool odd ++
    BitVec.ofBool even ++ BitVec.ofBool (hasParity && even && odd) ++ BitVec.ofBool hasParity ++
    len : BitVec (8 + 8 + 2 + 1 + 1 + 1 + 1 + 1 + 1 + 8)).getLsbD n = _
  simp only [BitVec.getLsbD_append, BitVec.getLsbD_ofBool, BitVec.getLsbD_zero]
  interval_cases n <;> simp

/-- The XOR of the low bits is the parity of the number of ones among them (R12). -/
theorem xorLow_eq {w : Nat} (v : BitVec w) (n : Nat) :
    xorLow v n = decide ((bitsMsb n v).countP id % 2 = 1) := by
  induction n with
  | zero => rfl
  | succ n ih =>
    rw [xorLow, bitsMsb, ih, List.countP_cons]
    cases v.getLsbD n
    · simp
    · simp only [id, if_true, Bool.true_xor]
      rcases Nat.mod_two_eq_zero_or_one ((bitsMsb n v).countP id) with h | h
      · simp [h, Nat.add_mod]
      · simp [h, Nat.add_mod]

end Machine

end Sys2Proof
end

