-- ==== Sys2Proof/Tests/Slice0.lean ====
section
/-! SUPPORT. Tests of one decoding or one step each, with expected values from spec/, and a witness for the
hypotheses of every statement. -/

namespace Sys2Proof.Tests

open Sys2Proof.Machine

/-! ### Decoding: the match words of spec/opcode_table.json, DATA 0 for reads and 0xA5 for writes -/

theorem test_decode_reads0 :
    ([0x0000000000#39, 0x0100000000#39, 0x0200000000#39, 0x0300000000#39, 0x0400000000#39,
     0x0500000000#39, 0x0600000000#39, 0x0700000000#39, 0x0800000000#39, 0x0900000000#39,
     0x0A00000000#39, 0x0B00000000#39, 0x0C00000000#39, 0x0D00000000#39, 0x0E00000000#39,
     0x0F00000000#39]
     : List TxnWord).map decodeTxn =
    [.rdId, .rdCtrl, .rdStatus, .rdIrqEn, .rdCmd, .rdSilence, .rdPulse, .rdRelock, .rdDebounce0,
     .rdDebounce1, .rdDebounce2, .rdRsvd11, .rdCardLo, .rdCardHi, .rdCardInfo, .rdCardNum] := rfl

theorem test_decode_reads16 :
    ([0x1000000000#39, 0x1100000000#39, 0x1200000000#39, 0x1300000000#39, 0x1400000000#39,
     0x1500000000#39, 0x1600000000#39, 0x1700000000#39, 0x1800000000#39, 0x1900000000#39,
     0x1A00000000#39, 0x1B00000000#39, 0x1C00000000#39, 0x1D00000000#39, 0x1E00000000#39,
     0x1F00000000#39]
     : List TxnWord).map decodeTxn =
    [.rdErrLo, .rdErrHi, .rdErrLen, .rdRelockRem, .rdRsvd20, .rdRsvd21, .rdRsvd22, .rdRsvd23,
     .rdRsvd24, .rdRsvd25, .rdRsvd26, .rdRsvd27, .rdRsvd28, .rdRsvd29, .rdRsvd30, .rdRsvd31] := rfl

theorem test_decode_reads32 :
    ([0x2000000000#39, 0x2100000000#39, 0x2200000000#39, 0x2300000000#39, 0x2400000000#39,
     0x2500000000#39, 0x2600000000#39, 0x2700000000#39, 0x2800000000#39, 0x2900000000#39,
     0x2A00000000#39, 0x2B00000000#39, 0x2C00000000#39, 0x2D00000000#39, 0x2E00000000#39,
     0x2F00000000#39]
     : List TxnWord).map decodeTxn =
    [.rdRsvd32, .rdRsvd33, .rdRsvd34, .rdRsvd35, .rdRsvd36, .rdRsvd37, .rdRsvd38, .rdRsvd39,
     .rdRsvd40, .rdRsvd41, .rdRsvd42, .rdRsvd43, .rdRsvd44, .rdRsvd45, .rdRsvd46, .rdRsvd47] := rfl

theorem test_decode_reads48 :
    ([0x3000000000#39, 0x3100000000#39, 0x3200000000#39, 0x3300000000#39, 0x3400000000#39,
     0x3500000000#39, 0x3600000000#39, 0x3700000000#39, 0x3800000000#39, 0x3900000000#39,
     0x3A00000000#39, 0x3B00000000#39, 0x3C00000000#39, 0x3D00000000#39, 0x3E00000000#39,
     0x3F00000000#39]
     : List TxnWord).map decodeTxn =
    [.rdRsvd48, .rdRsvd49, .rdRsvd50, .rdRsvd51, .rdRsvd52, .rdRsvd53, .rdRsvd54, .rdRsvd55,
     .rdRsvd56, .rdRsvd57, .rdRsvd58, .rdRsvd59, .rdRsvd60, .rdRsvd61, .rdRsvd62, .rdRsvd63] := rfl

theorem test_decode_writes0 :
    ([0x40000000A5#39, 0x41000000A5#39, 0x42000000A5#39, 0x43000000A5#39, 0x45000000A5#39,
     0x46000000A5#39, 0x47000000A5#39, 0x48000000A5#39, 0x49000000A5#39, 0x4A000000A5#39,
     0x4B000000A5#39, 0x4C000000A5#39, 0x4D000000A5#39, 0x4E000000A5#39, 0x4F000000A5#39,
     0x50000000A5#39]
     : List TxnWord).map decodeTxn =
    [.wrId 0xA5#32, .wrCtrl 0xA5#32, .wrStatus 0xA5#32, .wrIrqEn 0xA5#32, .wrSilence 0xA5#32,
     .wrPulse 0xA5#32, .wrRelock 0xA5#32, .wrDebounce0 0xA5#32, .wrDebounce1 0xA5#32,
     .wrDebounce2 0xA5#32, .wrRsvd11 0xA5#32, .wrCardLo 0xA5#32, .wrCardHi 0xA5#32,
     .wrCardInfo 0xA5#32, .wrCardNum 0xA5#32, .wrErrLo 0xA5#32] := rfl

theorem test_decode_writes16 :
    ([0x51000000A5#39, 0x52000000A5#39, 0x53000000A5#39, 0x54000000A5#39, 0x55000000A5#39,
     0x56000000A5#39, 0x57000000A5#39, 0x58000000A5#39, 0x59000000A5#39, 0x5A000000A5#39,
     0x5B000000A5#39, 0x5C000000A5#39, 0x5D000000A5#39, 0x5E000000A5#39, 0x5F000000A5#39,
     0x60000000A5#39]
     : List TxnWord).map decodeTxn =
    [.wrErrHi 0xA5#32, .wrErrLen 0xA5#32, .wrRelockRem 0xA5#32, .wrRsvd20 0xA5#32,
     .wrRsvd21 0xA5#32, .wrRsvd22 0xA5#32, .wrRsvd23 0xA5#32, .wrRsvd24 0xA5#32,
     .wrRsvd25 0xA5#32, .wrRsvd26 0xA5#32, .wrRsvd27 0xA5#32, .wrRsvd28 0xA5#32,
     .wrRsvd29 0xA5#32, .wrRsvd30 0xA5#32, .wrRsvd31 0xA5#32, .wrRsvd32 0xA5#32] := rfl

theorem test_decode_writes32 :
    ([0x61000000A5#39, 0x62000000A5#39, 0x63000000A5#39, 0x64000000A5#39, 0x65000000A5#39,
     0x66000000A5#39, 0x67000000A5#39, 0x68000000A5#39, 0x69000000A5#39, 0x6A000000A5#39,
     0x6B000000A5#39, 0x6C000000A5#39, 0x6D000000A5#39, 0x6E000000A5#39, 0x6F000000A5#39,
     0x70000000A5#39]
     : List TxnWord).map decodeTxn =
    [.wrRsvd33 0xA5#32, .wrRsvd34 0xA5#32, .wrRsvd35 0xA5#32, .wrRsvd36 0xA5#32,
     .wrRsvd37 0xA5#32, .wrRsvd38 0xA5#32, .wrRsvd39 0xA5#32, .wrRsvd40 0xA5#32,
     .wrRsvd41 0xA5#32, .wrRsvd42 0xA5#32, .wrRsvd43 0xA5#32, .wrRsvd44 0xA5#32,
     .wrRsvd45 0xA5#32, .wrRsvd46 0xA5#32, .wrRsvd47 0xA5#32, .wrRsvd48 0xA5#32] := rfl

theorem test_decode_writes48 :
    ([0x71000000A5#39, 0x72000000A5#39, 0x73000000A5#39, 0x74000000A5#39, 0x75000000A5#39,
     0x76000000A5#39, 0x77000000A5#39, 0x78000000A5#39, 0x79000000A5#39, 0x7A000000A5#39,
     0x7B000000A5#39, 0x7C000000A5#39, 0x7D000000A5#39, 0x7E000000A5#39, 0x7F000000A5#39]
     : List TxnWord).map decodeTxn =
    [.wrRsvd49 0xA5#32, .wrRsvd50 0xA5#32, .wrRsvd51 0xA5#32, .wrRsvd52 0xA5#32,
     .wrRsvd53 0xA5#32, .wrRsvd54 0xA5#32, .wrRsvd55 0xA5#32, .wrRsvd56 0xA5#32,
     .wrRsvd57 0xA5#32, .wrRsvd58 0xA5#32, .wrRsvd59 0xA5#32, .wrRsvd60 0xA5#32,
     .wrRsvd61 0xA5#32, .wrRsvd62 0xA5#32, .wrRsvd63 0xA5#32] := rfl

/-- The command words: NOP, LOCK, UNLOCK, and reserved words with OP = 3 and with bits 31:4 nonzero; they
are the words of WR_CMD too (R87, R88, R98). -/
theorem test_decode_commands :
    ([0x4400000000#39, 0x4400000001#39, 0x4400000002#39, 0x4400000003#39, 0x4480000001#39]
     : List TxnWord).map decodeTxn =
    [.nop, .lock, .unlock, .cmdRsvd 3#32, .cmdRsvd 0x80000001#32] := rfl

/-- A read ignores DATA (R84). -/
theorem test_decode_read_ignores_data : decodeTxn 0x02FFFFFFFF#39 = .rdStatus := rfl

/-- The bits of a string of '0' and '1', in the order received. -/
def bitsOf (s : String) : List Bool := s.toList.map (· == '1')

/-- The W26 example of R149. -/
theorem test_decode_w26 :
    decode (.frame (bitsOf "00111101100110000001110011")) = .ok (.decW26 0x0F66073#26) := by rfl

set_option maxRecDepth 4000 in
/-- The W34 example of R150. -/
theorem test_decode_w34 :
    decode (.frame (bitsOf "1000100100011010001010110011110001")) =
      .ok (.decW34 0x22468ACF1#34) := by rfl

set_option maxRecDepth 4000 in
/-- The W32 example of R151. -/
theorem test_decode_w32 :
    decode (.frame (List.replicate 32 true)) = .ok (.decW32 0xFFFFFFFF#32) := by rfl

set_option maxRecDepth 8000 in
/-- The W64 example of R152. -/
theorem test_decode_w64 :
    decode (.frame (List.replicate 32 true ++ List.replicate 32 false)) =
      .ok (.decW64 0xFFFFFFFF00000000#64) := by rfl

/-- The 25-bit example of R148, a frame of one bit, and the frame of no bits (R158). -/
theorem test_decode_unsupported :
    decode (.frame (List.replicate 25 true)) = .ok (.frameUnsupported 25#8 0x01FFFFFF#64) ∧
      decode (.frame [true]) = .ok (.frameUnsupported 1#8 1#64) ∧
      decode (.frame []) = .error .emptyFrame := ⟨rfl, rfl, rfl⟩

/-- A table word in whole bytes: a transaction in 40 bits, and a frame in its own width (log 10). -/
theorem test_decode_table_words :
    decodeTableWord 40 0x4400000001 = some .lock ∧ decodeTableWord 39 0x0000000000 = some .rdId ∧
      decodeTableWord 26 0x0F66073 = some (.decW26 0x0F66073#26) ∧
      decodeTableWord 32 0xFFFFFFFF = some (.decW32 0xFFFFFFFF#32) ∧
      decodeTableWord 40 0x8000000000 = none := ⟨rfl, rfl, rfl, rfl, rfl⟩

/-- Adapter accesses, little-endian (R66), and the ones a model refuses (R64, R65). -/
theorem test_adapter :
    BusReq.toTxn (.store 0x18#8 [0x78#8, 0x56#8, 0x34#8, 0x12#8]) = .ok 0x4612345678#39 ∧
      BusReq.toTxn (.load 0x4C#8 4) = .ok 0x1300000000#39 ∧
      BusReq.toTxn (.load 0x4D#8 4) = .error .misaligned ∧
      BusReq.toTxn (.load 0x4C#8 2) = .error .accessWidth ∧
      BusReq.toTxn (.store 0x4C#8 [0#8]) = .error .accessWidth := ⟨rfl, rfl, rfl, rfl, rfl⟩

/-! ### WellFormed refuses an ill-formed term for each check -/

theorem test_wf_cmdRsvd_nop : (Instr.cmdRsvd 0#32).wf = false := rfl
theorem test_wf_cmdRsvd_lock : (Instr.cmdRsvd 1#32).wf = false := rfl
theorem test_wf_cmdRsvd_unlock : (Instr.cmdRsvd 2#32).wf = false := rfl
theorem test_wf_frame_empty : (Instr.frameUnsupported 0#8 0#64).wf = false := by decide
theorem test_wf_frame_supported :
    [26#8, 32#8, 34#8, 64#8].map (fun n => (Instr.frameUnsupported n 0#64).wf) =
      [false, false, false, false] := by decide
theorem test_wf_frame_too_wide : (Instr.frameUnsupported 3#8 8#64).wf = false := by decide
theorem test_wf_accepts :
    (Instr.cmdRsvd 3#32).wf = true ∧ (Instr.frameUnsupported 3#8 7#64).wf = true ∧
      (Instr.frameUnsupported 255#8 0xFFFFFFFFFFFFFFFF#64).wf = true := by decide

/-! ### One step each -/

/-- A state between cycles with one cycle's inputs. -/
def placed (b : Block) (p : Inputs) : State :=
  { cur := b, nxt := b, raised := 0#11, rdata := none, stim := [p], cycle := 0 }

/-- A state in the reset block with a given block in its place and idle inputs. -/
def idleAt (b : Block) : State := placed b Inputs.idle

/-- A cycle of idle levels that presents one transaction word. -/
def bus (w : TxnWord) : Inputs := { Inputs.idle with bus := [.txn w] }

/-- The same in a cycle that is no tick. -/
def quiet (w : TxnWord) : Inputs := { bus w with tick := false }

/-- Something read off the state an outcome gives. -/
def read {α : Type} (f : State → α) : Host.Outcome State Fault Refusal → Option α
  | .next t => some (f t)
  | .fault _ => none
  | .refused _ => none

/-- All units running, in strike mode. -/
def running : Block := { Block.reset with ctrl := 0x1F#32 }

/-- A pulse in progress with `n` ticks left. -/
def busy (dir : Bool) (n : Word) : Block :=
  { running with act := { Actuator.reset with locked := !dir, pActive := true, pDir := dir, pRem := n } }

/-- An armed relock with `n` ticks left. -/
def armed (n : Word) : Block :=
  { running with act := { Actuator.reset with locked := false, rArmed := true, rRem := n } }

/-- A primed decoder with an open frame. -/
def holding (len : FrameCount) (v : FrameReg) (srem : Word) : Block :=
  { running with wd := { primed := true, prev0 := true, prev1 := true, count := len, shift := v,
                         srem := srem } }

/-- A primed channel with a given previous level. -/
def sensing (k : Chan) (prev : Bool) : Block :=
  running.putSn k { Channel.reset with primed := true, prev := prev }

/-- R149: CARD_LO, CARD_INFO and CARD_NUM of the example, and CARD_VALID. -/
theorem test_decW26 :
    read (fun t => (t.nxt.cardLo, t.nxt.cardHi, t.nxt.cardInfo, t.nxt.cardNum, t.raised))
      (exec (.decW26 0x0F66073#26) (idleAt running)) =
    some (0x00F66073#32, 0#32, 0x007B3F1A#32, 0x00003039#32, 0x001#11) := by decide

/-- R149: flipping the trailing parity bit clears PAR_OK and PAR_O_OK and nothing else. -/
theorem test_decW26_bad_parity :
    read (fun t => (t.nxt.cardInfo, t.nxt.cardNum)) (exec (.decW26 0x0F66072#26) (idleAt running)) =
    some (0x007B351A#32, 0x00003039#32) := by decide

/-- R150. -/
theorem test_decW34 :
    read (fun t => (t.nxt.cardLo, t.nxt.cardHi, t.nxt.cardInfo, t.nxt.cardNum))
      (exec (.decW34 0x22468ACF1#34) (idleAt running)) =
    some (0x2468ACF1#32, 2#32, 0x00002F22#32, 0x12345678#32) := by decide

/-- R151. -/
theorem test_decW32 :
    read (fun t => (t.nxt.cardLo, t.nxt.cardHi, t.nxt.cardInfo, t.nxt.cardNum))
      (exec (.decW32 0xFFFFFFFF#32) (idleAt running)) =
    some (0xFFFFFFFF#32, 0#32, 0x00000020#32, 0#32) := by decide

/-- R152. -/
theorem test_decW64 :
    read (fun t => (t.nxt.cardLo, t.nxt.cardHi, t.nxt.cardInfo, t.nxt.cardNum))
      (exec (.decW64 0xFFFFFFFF00000000#64) (idleAt running)) =
    some (0#32, 0xFFFFFFFF#32, 0x00000040#32, 0#32) := by decide

/-- R148: the 25-bit example. -/
theorem test_frameUnsupported :
    read (fun t => (t.nxt.errLo, t.nxt.errHi, t.nxt.errLen, t.raised))
      (exec (.frameUnsupported 25#8 0x01FFFFFF#64) (idleAt running)) =
    some (0x01FFFFFF#32, 0#32, 25#32, 0x004#11) := by decide

/-- R154: a second card read is lost with CARD_OVR. -/
theorem test_card_overrun :
    read (fun t => (t.nxt.cardLo, t.raised))
      (exec (.decW32 5#32) (idleAt { running with flags := 1#11, cardLo := 7#32 })) =
    some (7#32, 0x002#11) := by decide

/-- R183: PULSE = 3 and a relock armed. -/
theorem test_lock :
    read (fun t => (t.cur.lockOut, t.cur.act.pRem, t.cur.act.rArmed, t.cur.act.locked))
      (step (placed { armed 4#32 with pulse := 3#32 } (bus 0x4400000001#39))) =
    some (true, 3#32, false, false) := by decide

/-- R184: UNLOCK with PULSE = 0 gives a pulse of 1 tick. -/
theorem test_unlock :
    read (fun t => (t.cur.unlockOut, t.cur.act.pRem, t.cur.act.locked))
      (step (placed { running with pulse := 0#32 } (bus 0x4400000002#39))) =
    some (true, 1#32, true) := by decide

/-- R186 and row 4 of R266: refused on the completion tick, and the pulse still completes. -/
theorem test_unlock_refused :
    read (fun t => (t.cur.flags, t.cur.act.pActive, t.cur.act.locked))
      (step (placed (busy true 1#32) (bus 0x4400000002#39))) =
    some (0x050#11, false, true) := by decide

/-- R182: a NOP leaves the relock counting down. -/
theorem test_nop :
    read (fun t => (t.cur.act.rRem, t.cur.flags)) (step (placed (armed 9#32) (bus 0x4400000000#39))) =
    some (8#32, 0#11) := by decide

/-- R185: `W CMD 0x3`. -/
theorem test_cmdRsvd :
    read (fun t => (t.cur.flags, t.cur.act.locked, t.cur.act.pActive))
      (step (placed running (bus 0x4400000003#39))) =
    some (0x040#11, true, false) := by decide

/-- R225: STATUS after reset is 0x0001_0000. -/
theorem test_rdStatus :
    read (·.rdata) (step (placed Block.reset (bus 0x0200000000#39))) = some (some 0x00010000#32) := by
  decide

/-- R221 and R222: ID and CTRL after reset. -/
theorem test_rdId_rdCtrl :
    read (·.rdata) (step (placed Block.reset (bus 0x0000000000#39))) = some (some 0x57440007#32) ∧
      read (·.rdata) (step (placed Block.reset (bus 0x0100000000#39))) = some (some 2#32) := by decide

/-- R239: RELOCK_REM of an armed relock, and 0 when none is armed. -/
theorem test_rdRelockRem :
    read (·.rdata) (step (placed (armed 10#32) (bus 0x1300000000#39))) = some (some 0xA#32) ∧
      read (·.rdata) (step (placed running (bus 0x1300000000#39))) = some (some 0#32) := by decide

/-- R223: `W CTRL 0x02` discards an open 10-bit frame, raises nothing and keeps strike mode. -/
theorem test_wrCtrl :
    read (fun t => (t.cur.ctrl, t.cur.frameOpen, t.cur.flags))
      (step (placed (holding 10#8 1#64 0#32) (bus 0x4100000002#39))) =
    some (2#32, false, 0#11) := by decide

/-- R224: with STATUS = 0x0001_0011, `W STATUS 0x1` gives 0x0001_0010. -/
theorem test_wrStatus :
    read (·.cur.statusWord) (step (placed { running with flags := 0x011#11 } (bus 0x4200000001#39))) =
    some 0x00010010#32 := by decide

/-- R266 row 1: set wins over the clear of the same cycle. -/
theorem test_wrStatus_set_wins :
    read (·.cur.flags)
      (step (placed { busy true 1#32 with flags := 0x010#11 } (bus 0x4200000010#39))) =
    some 0x010#11 := by decide

/-- R227: IRQ_EN keeps bits 6:0 and 10:8. -/
theorem test_wrIrqEn :
    read (·.cur.irqEn) (step (placed running (bus 0x43FFFFFFFF#39))) = some 0x0000077F#32 := by decide

/-- R231 and R240: a stored write, and an ignored one. -/
theorem test_wrPulse_wrRsvd11 :
    read (·.cur.pulse) (step (placed running (bus 0x46FFFFFFFF#39))) = some 0xFFFFFFFF#32 ∧
      read (·.cur) (step (placed Block.reset (bus 0x4BFFFFFFFF#39))) = some Block.reset := by decide

/-- R142: both lines fall on one tick; the bits are 0 and then 1. -/
theorem test_wdTick_both_lines :
    read (fun t => (t.nxt.wd.count, t.nxt.wd.shift, t.nxt.wd.srem))
      (exec .wdTick (placed { holding 1#8 1#64 3#32 with silence := 5#32 }
        { Inputs.idle with d0 := false, d1 := false })) =
    some (3#8, 0b101#64, 5#32) := by decide

/-- R146: the close happens first, and the new bit starts a fresh frame. -/
theorem test_wdTick_close_then_bit :
    read (fun t => (t.nxt.wd.count, t.nxt.wd.shift, t.nxt.errLen, t.raised))
      (exec .wdTick (placed (holding 25#8 0x01FFFFFF#64 0#32) { Inputs.idle with d1 := false })) =
    some (1#8, 1#64, 25#32, 0x004#11) := by decide

/-- R148: CLOSE loads the frame and leaves clearing it to the tick. -/
theorem test_close :
    read (fun t => (t.nxt.cardLo, t.nxt.cardInfo, t.nxt.wd.count))
      (exec .close (idleAt (holding 32#8 9#64 0#32))) =
    some (9#32, 0x20#32, 32#8) := by decide

/-- R159. -/
theorem test_wdStop :
    read (fun t => (t.nxt.wd, t.raised)) (exec .wdStop (idleAt (holding 26#8 9#64 0#32))) =
    some (Decoder.stopped, 0#11) := by decide

/-- R160: the bit is stored and nothing else is done. -/
theorem test_wdStart :
    read (fun t => (t.nxt.ctrl, t.nxt.wd)) (exec .wdStart (idleAt Block.reset)) =
    some (3#32, Decoder.reset) := by decide

/-- R121: the example of channel 0. -/
theorem test_sensTick0 :
    read (fun t => (t.nxt.sn0.state, t.raised))
      (exec .sensTick0 (placed (sensing .door false) { Inputs.idle with sens0 := true })) =
    some (true, 0x100#11) := by decide

/-- R114: with a debounce delay the edge starts the wait. -/
theorem test_sensTick1 :
    read (fun t => (t.nxt.sn1.state, t.nxt.sn1.pend, t.raised))
      (exec .sensTick1 (placed { sensing .proximity false with debounce1 := 2#32 }
        { Inputs.idle with sens1 := true })) =
    some (false, true, 0#11) := by decide

/-- R111: active-low polarity of channel 2. -/
theorem test_sensTick2 :
    read (fun t => (t.nxt.sn2.state, t.raised))
      (exec .sensTick2 (placed { sensing .exitButton true with ctrl := 0x90#32 } Inputs.idle)) =
    some (true, 0x400#11) := by decide

/-- R117: the state and the level are kept. -/
theorem test_sensStop0 :
    read (fun t => t.nxt.sn0)
      (exec .sensStop0 (idleAt { running with sn0 := ⟨true, true, true, 5#32, true⟩ })) =
    some ⟨false, true, false, 0#32, true⟩ := by decide

/-- R118: bits 3 and 4 of CTRL are stored. -/
theorem test_sensStart :
    read (fun t => t.nxt.ctrl) (exec .sensStart1 (idleAt Block.reset)) = some 0x0A#32 ∧
      read (fun t => t.nxt.ctrl) (exec .sensStart2 (idleAt Block.reset)) = some 0x12#32 := by decide

/-- R190, R191: a failed UNLOCK while UNLOCKED arms the relock in strike mode. -/
theorem test_actCycle_fault :
    read (fun t => (t.nxt.act.locked, t.nxt.act.rArmed, t.nxt.act.rRem, t.raised))
      (exec .actCycle (placed { busy true 1#32 with relock := 10#32 }
        { Inputs.idle with fault := true })) =
    some (false, true, 10#32, 0x020#11) := by decide

/-- R195: an accepted command on the fire tick wins. -/
theorem test_actCycle_command_wins :
    read (fun t => (t.cur.unlockOut, t.cur.lockOut, t.cur.act.rArmed))
      (step (placed (armed 1#32) (bus 0x4400000002#39))) =
    some (true, false, false) := by decide

/-- R192: the relock fires. -/
theorem test_relockFire :
    read (fun t => (t.nxt.act.rArmed, t.nxt.act.pActive, t.nxt.act.pDir, t.nxt.act.pRem))
      (exec .relockFire (idleAt { armed 1#32 with pulse := 2#32 })) =
    some (false, true, true, 2#32) := by decide

/-- R290: reset wins, and a read in its cycle returns 0. -/
theorem test_reset_cycle :
    read (fun t => (t.cur, t.rdata)) (step (placed (busy true 3#32) { bus 0x0000000000#39 with rst := true })) =
    some (Block.reset, some 0#32) := by decide

/-- The instruction placed is the one the next step runs (log 9). -/
theorem test_withFetchWord :
    read (·.cur.flags) (step (State.reset.withFetchWord 40 0x4400000003)) = some 0x040#11 ∧
      read (·.cur.cardInfo) (step (State.reset.withFetchWord 26 0x0F66073)) = some 0x007B3F1A#32 := by
  decide

/-! ### Witnesses: states and operands that meet the hypotheses of each statement -/

theorem witness_StepRunsDecodedInstruction :
    ((placed running (bus 0x0200000000#39)).inputs.rst = false ∧
      (placed running (bus 0x0200000000#39)).inputs.bus = [.txn 0x0200000000#39] ∧
      decode (.bus (.txn 0x0200000000#39)) = .ok .rdStatus ∧ Instr.rdStatus.wf = true) ∧
    (idleAt running).inputs.rst = false ∧ (idleAt running).inputs.bus = [] :=
  ⟨⟨rfl, rfl, rfl, rfl⟩, rfl, rfl⟩

theorem witness_CloseRunsDecodedFrame :
    (decode (.frame [true]) = .ok (.frameUnsupported 1#8 1#64) ∧
      (idleAt (holding 1#8 1#64 0#32)).cur.wd.count = frameCount [true] ∧
      (idleAt (holding 1#8 1#64 0#32)).cur.wd.shift = frameValue [true] ∧
      (idleAt (holding 1#8 1#64 0#32)).cur.wd.srem = 0#32) ∧
    (let bits := bitsMsb 26 0x0F66073#26
     decode (.frame bits) = .ok (.decW26 0x0F66073#26) ∧
      (idleAt (holding 26#8 0x0F66073#64 0#32)).cur.wd.count = frameCount bits ∧
      (idleAt (holding 26#8 0x0F66073#64 0#32)).cur.wd.shift = frameValue bits) ∧
    ((idleAt (holding 1#8 1#64 0#32)).cur.wd.count ≠ 0#8 ∧
      (idleAt (holding 255#8 1#64 0#32)).cur.wd.count ≠ 0#8 ∧
      SupportedLength (idleAt (holding 64#8 1#64 0#32)).cur.wd.count ∧
      ¬SupportedLength (idleAt (holding 65#8 1#64 0#32)).cur.wd.count) ∧
    (idleAt (holding 0#8 0#64 0#32)).cur.wd.count = 0#8 ∧
    (idleAt (holding 3#8 0#64 1#32)).cur.wd.srem ≠ 0#32 :=
  ⟨⟨rfl, rfl, rfl, rfl⟩, ⟨rfl, rfl, rfl⟩, by decide, rfl, by decide⟩

/-- A cycle of idle levels with given requests. -/
def requests (l : List BusReq) : State := placed running { Inputs.idle with bus := l }

/-- An access of each kind at the last offset the port has, and each refusal. -/
theorem witness_StepCompletes :
    ((placed running { Inputs.idle with rst := true }).inputs.rst = true ∧
      AcceptedCycle (idleAt running).inputs ∧
      AcceptedCycle (placed running (bus 0x7FFFFFFFFF#39)).inputs ∧
      AcceptedCycle (requests [.load 0xFC#8 4]).inputs ∧
      AcceptedCycle (requests [.store 0xFC#8 [0#8, 0#8, 0#8, 0#8]]).inputs) ∧
    step (requests [.load 0xFD#8 5]) = .refused .accessWidth ∧
    step (requests [.store 0xFC#8 [0#8, 0#8, 0#8]]) = .refused .accessWidth ∧
    step (requests [.load 0xFF#8 4]) = .refused .misaligned ∧
    step (requests [.store 1#8 [0#8, 0#8, 0#8, 0#8]]) = .refused .misaligned ∧
    step (requests [.txn 0#39, .txn 0#39]) = .refused .busConflict :=
  ⟨⟨rfl, .inl rfl, .inr (.inl ⟨_, rfl⟩), .inr (.inr (.inl ⟨_, rfl, rfl⟩)),
      .inr (.inr (.inr ⟨_, _, rfl, rfl, rfl⟩))⟩,
    step_refused rfl rfl, step_refused rfl rfl, step_refused rfl rfl, step_refused rfl rfl,
    step_refused rfl rfl⟩

theorem witness_RefusesInexpressibleAccesses :
    ((requests [.load 0#8 3]).inputs.rst = false ∧ (requests [.load 0#8 3]).inputs.bus = [.load 0#8 3]) ∧
    ((requests [.store 0#8 []]).inputs.rst = false ∧
      (requests [.store 0#8 []]).inputs.bus = [.store 0#8 []] ∧ ([] : List Byte).length ≠ 4) ∧
    ((requests [.load 1#8 4]).inputs.bus = [.load 1#8 4] ∧ (1#8).extractLsb' 0 2 ≠ 0#2 ∧
      (requests [.store 0xFF#8 [0#8, 0#8, 0#8, 0#8]]).inputs.bus =
        [.store 0xFF#8 [0#8, 0#8, 0#8, 0#8]] ∧ (0xFF#8).extractLsb' 0 2 ≠ 0#2) ∧
    2 ≤ (requests [.txn 0#39, .txn 0#39]).inputs.bus.length := by decide

theorem witness_ResetCycle :
    (placed running { bus 0x0000000000#39 with rst := true }).inputs.rst = true ∧
      (placed running { Inputs.idle with rst := true }).inputs.bus = [] ∧
      (placed running { bus 0x0000000000#39 with rst := true }).inputs.bus = [.txn 0#39] := by decide

theorem witness_ReservedAndReadOnlyAccesses :
    Instr.rdRsvd11 ∈ ([.rdRsvd11, .rdRsvd63] : List Instr) ∧
      Instr.wrRsvd63 0xFFFFFFFF#32 ∈ ([.wrId 0xFFFFFFFF#32, .wrRsvd63 0xFFFFFFFF#32] : List Instr) :=
  ⟨.head _, .tail _ (.head _)⟩

/-- A cycle that is no reset and presents what the port takes answers a next state. -/
theorem completes (b : Block) (p : Inputs) (i? : Option Instr) (h : p.rst = false)
    (hf : (placed b p).fetchBus = .ok i?) : ∃ t, step (placed b p) = .next t := ⟨_, step_normal h hf⟩

theorem witness_ReadOfAnyWord :
    txnDir 0x3FFFFFFFFF#39 = false ∧
    (∃ t u, step (placed running (bus 0x0200000000#39)) = .next t ∧
      step { placed running (bus 0x0200000000#39) with stim := [{ bus 0x0200000000#39 with bus := [] }] } =
        .next u ∧ (bus 0x0200000000#39).rst = false ∧ txnDir 0x0200000000#39 = false) ∧
    ∃ t, step (placed running (quiet 0x0200000000#39)) = .next t ∧
      (placed running (quiet 0x0200000000#39)).inputs.tick = false :=
  ⟨rfl, ⟨_, _, step_normal (i? := some .rdStatus) rfl rfl, step_normal (i? := none) rfl rfl, rfl, rfl⟩,
    _, step_normal (i? := some .rdStatus) rfl rfl, rfl⟩

theorem witness_CommandAccepted : (idleAt running).cur.act.pActive = false := rfl

theorem witness_CommandRefused : (idleAt (busy true 1#32)).cur.act.pActive = true := rfl

theorem witness_ReservedCommandWords :
    (3#32 ≠ 0#32 ∧ 3#32 ≠ 1#32 ∧ 3#32 ≠ 2#32) ∧
      0xFFFFFFFF#32 ≠ 0#32 ∧ 0xFFFFFFFF#32 ≠ 1#32 ∧ 0xFFFFFFFF#32 ≠ 2#32 := by decide

/-- The premise of W26Decodes, W34Decodes and RawFormatsDecode, and that of CardReadDropped. -/
theorem witness_CardValid :
    (idleAt running).cur.flag .cardValid = false ∧
      (idleAt { running with flags := 1#11 }).cur.flag .cardValid = true := by decide

theorem witness_UnsupportedFrameReported :
    (idleAt running).cur.flag .errValid = false ∧
      (idleAt { running with flags := 4#11 }).cur.flag .errValid = true ∧
      (idleAt running).inputs.rst = false ∧ (∃ t, step (idleAt running) = .next t) ∧
      ¬(idleAt running).ClosesFrame :=
  ⟨by decide, by decide, rfl, completes _ _ none rfl rfl, by decide⟩

theorem witness_RawValueAssembly :
    ([] : List Bool).length ≤ 64 ∧ (List.replicate 64 true).length ≤ 64 ∧
      Decoder.reset.shift = 0#64 := by decide

theorem witness_AppendingABit : Decoder.reset.count = 0#8 ∧ Decoder.reset.shift = 0#64 := ⟨rfl, rfl⟩

theorem witness_WdTickStopsAndPrimes :
    (placed running { Inputs.idle with tick := false }).inputs.tick = false ∧
    (placed running (bus 0x4100000002#39)).clearsCtrl 0 = true ∧
    (idleAt Block.reset).cur.wdEn = false ∧
    (idleAt running).inputs.tick = true ∧ (idleAt running).clearsCtrl 0 = false ∧
    (idleAt running).cur.wdEn = true ∧ (idleAt running).cur.wd.primed = false := by decide

theorem witness_WdTickAccumulates :
    (let s := idleAt (holding 1#8 1#64 0#32)
     s.inputs.tick = true ∧ s.clearsCtrl 0 = false ∧ s.cur.wdEn = true ∧ s.cur.wd.primed = true ∧
      s.cur.wd.count ≠ 0#8 ∧ s.cur.wd.srem = 0#32) ∧
    (let s := idleAt (holding 255#8 1#64 1#32)
     s.inputs.tick = true ∧ s.clearsCtrl 0 = false ∧ s.cur.wdEn = true ∧ s.cur.wd.primed = true) := by
  decide

theorem witness_ZeroBitFrames : (idleAt (holding 0#8 0#64 0#32)).cur.wd.count = 0#8 := rfl

theorem witness_WdStopAndStart :
    (idleAt Block.reset).cur.wdEn = false ∧ (idleAt running).cur.wdEn = true := by decide

theorem witness_SensTickStopsAndPrimes :
    ¬(idleAt Block.reset).ChannelRuns .door ∧
    (∀ k ∈ [Chan.door, .proximity, .exitButton],
      (idleAt running).ChannelRuns k ∧ ((idleAt running).cur.sn k).primed = false) := by decide

theorem witness_SensTickEvaluates :
    ∀ k ∈ [Chan.door, .proximity, .exitButton],
      (idleAt (sensing k true)).ChannelRuns k ∧ ((idleAt (sensing k true)).cur.sn k).primed = true := by
  decide

theorem witness_SensStopAndStart :
    (∃ t, exec (stopOp .door) (idleAt running) = .next t) ∧
    (∀ k ∈ [Chan.door, .proximity, .exitButton],
      (idleAt Block.reset).cur.sensEn k = false ∧ (idleAt running).cur.sensEn k = true) :=
  ⟨⟨_, rfl⟩, by decide⟩

theorem witness_ActCycleAcceptsCommand :
    ∀ dir ∈ [true, false],
      let s := placed (armed 1#32) (bus (if dir then 0x4400000001#39 else 0x4400000002#39))
      s.cur.act.pActive = false ∧ s.written 4#6 = some (if dir then 1#32 else 2#32) := by decide

theorem witness_ActCycleRunsPulse :
    (∀ n ∈ [0, 1, 2], (idleAt (busy true (BitVec.ofNat 32 n))).inputs.tick = true ∧
      (idleAt (busy true (BitVec.ofNat 32 n))).cur.act.pActive = true) ∧
    (idleAt (busy true 1#32)).cur.act.pRem = 1#32 ∧
    (idleAt (busy true 2#32)).cur.act.pRem ≠ 1#32 := by decide

theorem witness_ActCycleRunsRelock :
    (∀ n ∈ [1, 2], let s := idleAt (armed (BitVec.ofNat 32 n))
      s.inputs.tick = true ∧ s.cur.act.pActive = false ∧ s.cur.act.rArmed = true ∧
      s.command ≠ some .lock ∧ s.command ≠ some .unlock) ∧
    (idleAt (armed 1#32)).cur.act.rRem = 1#32 ∧
    (placed (armed 1#32) { Inputs.idle with tick := false }).inputs.tick = false ∧
    (idleAt running).cur.act.rArmed = false ∧ (idleAt (armed 2#32)).cur.act.rRem ≠ 1#32 := by decide

theorem witness_ActCycleHolds :
    (let s := placed (busy true 1#32) { bus 0x4400000001#39 with tick := false }
     s.inputs.tick = false ∧
      ¬((s.command = some .lock ∨ s.command = some .unlock) ∧ s.cur.act.pActive = false)) ∧
    (let s := idleAt running
     (s.cur.act.pActive = false ∧ s.cur.act.rArmed = false) ∧
      ¬((s.command = some .lock ∨ s.command = some .unlock) ∧ s.cur.act.pActive = false)) := by decide

/-- The premises of EventFlagRule, and of every other statement about a step that is no reset. -/
theorem witness_EventFlagRule :
    (idleAt running).inputs.rst = false ∧ ∃ t, step (idleAt running) = .next t :=
  ⟨rfl, completes _ _ none rfl rfl⟩

theorem witness_HoldingRule :
    (∃ t, step (placed { holding 26#8 9#64 0#32 with flags := 5#11 } (bus 0x4200000001#39)) = .next t) ∧
    (let s := placed { holding 26#8 9#64 0#32 with flags := 5#11 } (bus 0x4200000001#39)
     s.inputs.rst = false ∧ s.cur.flag .cardValid = true ∧ s.cur.flag .errValid = true ∧
      s.ClosesFrame ∧ SupportedLength s.cur.wd.count ∧
      s.written 2#6 = some 1#32 ∧ (1#32).getLsbD Event.cardValid.code = true) ∧
    ¬(idleAt running).ClosesFrame :=
  ⟨completes _ _ (some (.wrStatus 1#32)) rfl rfl, by decide, by decide⟩

theorem witness_StopWins :
    (∃ t, step (placed (holding 26#8 9#64 0#32) (bus 0x4100000000#39)) = .next t) ∧
    (let s := placed (holding 26#8 9#64 0#32) (bus 0x4100000000#39)
     s.inputs.rst = false ∧ s.clearsCtrl 0 = true ∧
      ∀ k ∈ [Chan.door, .proximity, .exitButton], s.clearsCtrl (2 + k.num) = true) ∧
    (∃ t, step (idleAt Block.reset) = .next t) ∧
    ¬(idleAt Block.reset).ChannelRuns .door ∧ (idleAt Block.reset).clearsCtrl 2 = false :=
  ⟨completes _ _ (some (.wrCtrl 0#32)) rfl rfl, by decide, completes _ _ none rfl rfl, by decide,
    by decide⟩

theorem witness_ActuatorPriorities :
    (∃ t, step (placed (armed 1#32) (bus 0x4400000001#39)) = .next t) ∧
    (let s := placed (armed 1#32) (bus 0x4400000001#39)
     s.inputs.rst = false ∧ s.cur.act.pActive = false ∧ s.written 4#6 = some 1#32) ∧
    (∃ t, step (placed (busy false 1#32) (bus 0x4400000002#39)) = .next t) ∧
    (let s := placed (busy false 1#32) (bus 0x4400000002#39)
     s.PulseEnds ∧ s.written 4#6 = some 2#32 ∧ ¬s.FaultSeen) ∧
    (∃ t, step (placed (busy false 1#32) (bus 0x4100000000#39)) = .next t) ∧
    (placed (busy false 1#32) (bus 0x4100000000#39)).clearsCtrl 1 = true :=
  ⟨completes _ _ (some .lock) rfl rfl, by decide, completes _ _ (some .unlock) rfl rfl, by decide,
    completes _ _ (some (.wrCtrl 0#32)) rfl rfl, by decide⟩

/-- The cycles: no transaction; a CTRL write that cancels and stops, with other pins; a command accepted
with a relock armed; one refused; and one that is neither. -/
theorem witness_TimeStopsWithoutTicks :
    (let s := placed (busy false 1#32) { Inputs.idle with tick := false }
     s.inputs.rst = false ∧ s.inputs.tick = false ∧ s.inputs.bus = [] ∧ ∃ t, step s = .next t) ∧
    (∃ t u, step (placed (busy false 1#32) (quiet 0x4100000000#39)) = .next t ∧
      step { placed (busy false 1#32) (quiet 0x4100000000#39) with
        stim := [{ quiet 0x4100000000#39 with d0 := false, fault := true, sens0 := true }] } =
          .next u) ∧
    (placed (busy false 1#32) (quiet 0x4100000000#39)).cur.act.pActive = true ∧
    (let s := placed (armed 1#32) (quiet 0x4400000001#39)
     (∃ t, step s = .next t) ∧ s.inputs.rst = false ∧ s.inputs.tick = false ∧
      s.cur.act.pActive = false ∧ s.written 4#6 = some (if true then 1#32 else 2#32)) ∧
    (∃ t, step (placed (armed 1#32) (quiet 0x4400000003#39)) = .next t) ∧
    (placed (armed 1#32) (quiet 0x4400000003#39)).written 4#6 = some 3#32 :=
  ⟨⟨rfl, rfl, rfl, completes _ _ none rfl rfl⟩,
    ⟨_, _, step_normal (i? := some (.wrCtrl 0#32)) rfl rfl,
      step_normal (i? := some (.wrCtrl 0#32)) rfl rfl⟩, rfl,
    ⟨completes _ _ (some .lock) rfl rfl, rfl, rfl, rfl, rfl⟩,
    completes _ _ (some (.cmdRsvd 3#32)) rfl rfl, rfl⟩

theorem witness_WritesTakeEffectAtCycleEnd :
    ∀ i ∈ [3#6, 5#6, 10#6], (i = 3#6 ∨ (5 ≤ i.toNat ∧ i.toNat ≤ 10)) ∧
      (bus (writeWord i 7#32)).rst = false ∧ (bus (writeWord i 7#32)).bus = [.txn (writeWord i 7#32)] ∧
      (∃ t, step (placed running (bus (writeWord i 7#32))) = .next t) ∧
      ∃ u, step { placed running (bus (writeWord i 7#32)) with
        stim := [{ bus (writeWord i 7#32) with bus := [] }] } = .next u := by
  intro i hi
  refine ⟨by revert i; decide, rfl, rfl, ?_, ⟨_, step_normal (i? := none) rfl rfl⟩⟩
  exact completes _ _ (some (decodeTxn (writeWord i 7#32))) rfl rfl

theorem witness_ChannelIndependence :
    (∃ t, step (idleAt (sensing .door true)) = .next t) ∧
    (∃ t, step (placed { sensing .door true with debounce1 := 9#32 }
      { Inputs.idle with sens1 := true, d0 := false }) = .next t) ∧
    (let s := idleAt (sensing .door true)
     let u := placed { sensing .door true with debounce1 := 9#32 }
       { Inputs.idle with sens1 := true, d0 := false }
     s.inputs.rst = u.inputs.rst ∧ s.inputs.tick = u.inputs.tick ∧
      s.inputs.sens .door = u.inputs.sens .door ∧ s.clearsCtrl 2 = u.clearsCtrl 2 ∧
      s.cur.sensEn .door = u.cur.sensEn .door ∧ s.cur.sensPol .door = u.cur.sensPol .door ∧
      s.cur.debounce .door = u.cur.debounce .door ∧ s.cur.sn .door = u.cur.sn .door) :=
  ⟨completes _ _ none rfl rfl, completes _ _ none rfl rfl, by decide⟩

theorem witness_CardsAndSensorsNeverMoveTheLock :
    let s := idleAt (holding 26#8 9#64 0#32)
    let u := placed (sensing .door true) { Inputs.idle with d0 := false, sens1 := true }
    1 ≤ s.stim.length ∧ 1 ≤ u.stim.length ∧ s.cur.act = u.cur.act ∧ s.cur.pulse = u.cur.pulse ∧
      s.cur.relock = u.cur.relock ∧ s.cur.autoRelock = u.cur.autoRelock ∧
      (read (fun _ => true) (runCycles 1 s) = some true) ∧
      (read (fun _ => true) (runCycles 1 u) = some true) ∧
      (∀ p q, s.stim[0]? = some p → u.stim[0]? = some q →
        q = { p with d0 := q.d0, d1 := q.d1, sens0 := q.sens0, sens1 := q.sens1, sens2 := q.sens2 }) := by
  refine ⟨by decide, by decide, by decide, by decide, by decide, by decide, by decide, by decide, ?_⟩
  rintro p q hp hq
  cases hp
  cases hq
  rfl

/-- The reset block keeps the invariant; the premise of StepKeepsInvariant is met there. -/
theorem witness_StepKeepsInvariant :
    (idleAt Block.reset).cur.Inv ∧ ∃ t, step (idleAt Block.reset) = .next t := by
  refine ⟨⟨by decide, by decide, by decide, by decide, ?_, by decide⟩, completes _ _ none rfl rfl⟩
  intro k
  cases k <;> decide

theorem witness_StepKeepsFailSecure :
    (idleAt (armed 1#32)).cur.autoRelock = true ∧ (idleAt (armed 1#32)).cur.FailSecure ∧
      (idleAt (armed 1#32)).cur.act.locked = false ∧ ∃ t, step (idleAt (armed 1#32)) = .next t :=
  ⟨by decide, by decide, rfl, completes _ _ none rfl rfl⟩

theorem witness_LogicalStateChangesOnlyAtCompletion :
    (∃ t, step (idleAt (busy false 1#32)) = .next t) ∧ (idleAt (busy false 1#32)).inputs.rst = false ∧
      ((idleAt (busy false 1#32)).PulseEnds ∧ ¬(idleAt (busy false 1#32)).FaultSeen) ∧
      ¬((idleAt running).PulseEnds ∧ ¬(idleAt running).FaultSeen) :=
  ⟨completes _ _ none rfl rfl, rfl, by decide, by decide⟩

theorem witness_LatchModeNeverArms :
    (let s := idleAt { busy false 1#32 with ctrl := 0#32 }
     s.cur.autoRelock = false ∧ s.cur.act.rArmed = false ∧ ∃ t, step s = .next t) ∧
    (let s := idleAt { running with ctrl := 0#32, act := { Actuator.reset with locked := false } }
     s.inputs.rst = false ∧ s.cur.act.locked = false ∧ ¬s.PulseEnds) :=
  ⟨⟨by decide, by decide, completes _ _ none rfl rfl⟩, by decide⟩

theorem witness_EncodeDecodeRoundTrip :
    (Instr.wf (.cmdRsvd 3#32) = true ∧
      encode (.cmdRsvd 3#32) = some (.bus (.txn (writeWord 4#6 3#32)))) ∧
    (Instr.wf (.frameUnsupported 1#8 1#64) = true ∧
      encode (.frameUnsupported 1#8 1#64) = some (.frame [true])) ∧
    Instr.wf (.frameUnsupported 255#8 1#64) = true ∧ Instr.wf (.wrRsvd63 0#32) = true := by
  refine ⟨⟨rfl, rfl⟩, ⟨by decide, rfl⟩, by decide, rfl⟩

theorem witness_EveryWordDecodes :
    txnDir 0x3F00000001#39 = false ∧ txnDir 0x44FFFFFFFF#39 = true ∧ txnIdx 0x44FFFFFFFF#39 = 4#6 := by
  decide

/-- An open frame with `n` silent cycles to come. -/
def silent (len : FrameCount) (srem : Word) (n : Nat) : State :=
  { idleAt (holding len 1#64 srem) with stim := List.replicate n Inputs.idle }

theorem witness_SilentFrameCloses :
    ∀ c ∈ [(26#8, 0), (25#8, 2)],
      let s := silent c.1 (BitVec.ofNat 32 c.2) (c.2 + 1)
      s.cur.wdEn = true ∧ s.cur.wd.primed = true ∧ s.cur.wd.count ≠ 0#8 ∧
      s.Expects (s.cur.wd.srem.toNat + 1) SilentCycle ∧ s.cur.flag .cardValid = false ∧
      s.cur.flag .errValid = false := by decide

/-- A line pulse of bit `b`, low for `m` cycles and idle for `n`. -/
def pulseOf (b : Bool) (m n : Nat) : LinePulse :=
  { bit := b, low := List.replicate m { Inputs.idle with d0 := b, d1 := !b, fault := true }
    idle := List.replicate n Inputs.idle }

/-- SILENCE 3: a pulse of the longest length with a successor, and a last one of the longest. -/
theorem witness_PulseTrainIsReceived :
    let b := { holding 0#8 0#64 0#32 with silence := 3#32 }
    let s : State := { idleAt b with
      stim := ([pulseOf true 2 1] ++ [pulseOf false 1 3]).flatMap LinePulse.cycles ++ [Inputs.idle] }
    (∀ x ∈ [pulseOf true 2 1], x.OnTicks ∧ x.cycles.length ≤ s.cur.silence.toNat) ∧
      (pulseOf false 1 3).OnTicks ∧
      (pulseOf false 1 3).cycles.length ≤ s.cur.silence.toNat + 1 ∧
      s.cur.wdEn = true ∧ s.cur.wd.primed = true ∧ s.cur.wd.prev0 = true ∧ s.cur.wd.prev1 = true ∧
      s.cur.wd.count = 0#8 ∧ s.cur.wd.shift = 0#64 := by decide

/-- Pulse and relock durations 0 (each of one tick) and 2 and 3. -/
theorem witness_PulseAndRelockTiming :
    ∀ c ∈ [(0, 0), (2, 3)],
      let b := { running with pulse := BitVec.ofNat 32 c.1, relock := BitVec.ofNat 32 c.2 }
      let ps := List.replicate (2 * max c.1 1 + max c.2 1) Inputs.idle
      (bus (writeWord 4#6 2#32)).rst = false ∧
      (bus (writeWord 4#6 2#32)).bus = [.txn (writeWord 4#6 2#32)] ∧ b.act.pActive = false ∧
      b.autoRelock = true ∧ 2 * ticksOf b.pulse + ticksOf b.relock ≤ ps.length ∧
      ∀ q ∈ ps.take (2 * ticksOf b.pulse + ticksOf b.relock), QuietCycle q := by decide

theorem witness_DebouncedEdgePublishes :
    ∀ d ∈ [0, 1],
      let s : State := { idleAt { sensing .door true with debounce0 := BitVec.ofNat 32 d } with
        stim := List.replicate (1 + d) Inputs.idle }
      s.cur.sensEn .door = true ∧ (s.cur.sn .door).primed = true ∧ (s.cur.sn .door).prev = !false ∧
      s.Expects (1 + (s.cur.debounce .door).toNat)
        (fun p => p.rst = false ∧ p.tick = true ∧ p.bus = [] ∧ p.sens .door = false) := by decide

end Sys2Proof.Tests
end

/-! Proofs of the statements on the state of the block (spec/10_state.md): its invariant, the holding
registers, reset and the outputs. -/

namespace Sys2Proof.Machine

/-! ### Words and flag vectors -/

/-- A value is 0 under a mask exactly when it has no bit of the mask. -/
theorem and_eq_zero_iff_bits {w : Nat} {x m : BitVec w} :
    x &&& m = 0#w ↔ ∀ n < w, m.getLsbD n = true → x.getLsbD n = false := by
  constructor
  · intro h n _ hm
    have hn := congrArg (·.getLsbD n) h
    simpa [hm] using hn
  · intro h
    apply BitVec.eq_of_getLsbD_eq
    intro n hn
    rw [BitVec.getLsbD_and, BitVec.getLsbD_zero, Bool.and_eq_false_iff]
    cases hm : m.getLsbD n with
    | false => exact .inr rfl
    | true => exact .inl (h n hn hm)

theorem setWidth_byte_reserved (v : BitVec 8) : v.setWidth 32 &&& 0xFFFFFF00#32 = 0#32 := by
  rw [and_eq_zero_iff_bits]
  intro n hn hm
  have hmask : ∀ i < 32, (0xFFFFFF00#32).getLsbD i = true → 8 ≤ i := by decide
  rw [BitVec.getLsbD_setWidth, BitVec.getLsbD_of_ge v n (hmask n hn hm), Bool.and_false]

theorem irqStored_reserved (v : Word) : irqStored v &&& 0xFFFFF880#32 = 0#32 := by
  have hmask : Config.flagMask &&& 0xFFFFF880#32 = 0#32 := by decide
  rw [irqStored, BitVec.and_assoc, hmask, BitVec.and_zero]

theorem packInfo_reserved (fc : BitVec 8) (numValid fcValid odd even hasParity : Bool) (len : BitVec 8) :
    packInfo fc numValid fcValid odd even hasParity len &&& 0xFF00C000#32 = 0#32 := by
  rw [and_eq_zero_iff_bits]
  intro n hn hm
  have hmask : ∀ i < 32, (0xFF00C000#32).getLsbD i = true → 14 ≤ i ∧ i < 16 ∨ 24 ≤ i := by decide
  rw [getLsbD_packInfo _ _ _ _ _ _ _ n hn]
  rcases hmask n hn hm with ⟨hlo, hhi⟩ | h24
  · repeat rw [if_neg (by omega)]
    rw [if_pos hhi]
  · repeat rw [if_neg (by omega)]
    exact BitVec.getLsbD_of_ge fc (n - 16) (by omega)

theorem cardOf_reserved (len : FrameCount) (v : FrameReg) :
    (cardOf len v).info &&& 0xFF00C000#32 = 0#32 := by
  unfold cardOf
  repeat' split
  all_goals exact packInfo_reserved ..

theorem atLeastOne_ne_zero (x : Word) : atLeastOne x ≠ 0#32 := by
  unfold atLeastOne
  split
  · decide
  · assumption

theorem getLsbD_ctrlStored (v : Word) {n : Nat} (hn : n < 8) :
    (ctrlStored v).getLsbD n = v.getLsbD n := by
  simp [ctrlStored, hn, show n < 32 by omega]

/-! ### Events and flags -/

theorem Event.code_lt (e : Event) : e.code < 11 := by
  cases e with
  | sensChg k => cases k <;> decide
  | _ => decide

theorem Event.code_ne_seven (e : Event) : e.code ≠ 7 := by
  cases e with
  | sensChg k => cases k <;> decide
  | _ => decide

theorem Event.getLsbD_bit (e : Event) (n : Nat) : e.bit.getLsbD n = decide (n = e.code) := by
  have hcode := e.code_lt
  unfold Event.bit
  rw [BitVec.getLsbD_shiftLeft, BitVec.getLsbD_one]
  by_cases h : n = e.code
  · simp [h, hcode]
  · have hsub : n < e.code ∨ n - e.code ≠ 0 := by omega
    rcases hsub with hlt | hne
    · simp [h, hlt]
    · simp [h, hne]

theorem commandEvents_getLsbD (b : Block) (c : Option CmdOp) {n : Nat} (h : n ≠ Event.cmdRej.code) :
    (commandEvents b c).getLsbD n = false := by
  unfold commandEvents
  repeat' split
  all_goals simp [Event.getLsbD_bit, h]

theorem tickEvents_getLsbD (s : State) {n : Nat} (hd : n ≠ Event.lockDone.code)
    (he : n ≠ Event.lockErr.code) : (tickEvents s).getLsbD n = false := by
  unfold tickEvents
  repeat' split
  all_goals simp [Event.getLsbD_bit, hd, he]


theorem State.snEvents_getLsbD (s : State) (k : Chan) {n : Nat} (h : n < 8) :
    (s.snEvents k).getLsbD n = false := by
  have hcode : n ≠ (Event.sensChg k).code := by
    change n ≠ 8 + k.num
    omega
  unfold State.snEvents
  split
  · simpa [Event.getLsbD_bit] using hcode
  · exact BitVec.getLsbD_zero

theorem State.actEvents_getLsbD (s : State) {n : Nat} (h : n < 4 ∨ n = 7) :
    s.actEvents.getLsbD n = false := by
  have hrej : n ≠ Event.cmdRej.code := by change n ≠ 6; omega
  have hdone : n ≠ Event.lockDone.code := by change n ≠ 4; omega
  have herr : n ≠ Event.lockErr.code := by change n ≠ 5; omega
  rw [State.actEvents, BitVec.getLsbD_or, commandEvents_getLsbD _ _ hrej, Bool.false_or]
  split
  · exact BitVec.getLsbD_zero
  · exact tickEvents_getLsbD s hdone herr

theorem State.wdEvents_getLsbD (s : State) (n : Nat) :
    s.wdEvents.getLsbD n = (s.wdCloses && decide (n = (closeEvent s.cur s.cur.wd.count).code)) := by
  unfold State.wdEvents
  cases s.wdCloses <;> simp [Event.getLsbD_bit]

/-- Bits 0 to 3 of a cycle's events are the decoder's alone, and bit 7 is nobody's (R29, R261). -/
theorem State.eventsNext_getLsbD (s : State) {n : Nat} (h : n < 4 ∨ n = 7) :
    s.eventsNext.getLsbD n = s.wdEvents.getLsbD n := by
  have hsn : ∀ k, (s.snEvents k).getLsbD n = false := fun k => s.snEvents_getLsbD k (by omega)
  simp only [State.eventsNext, BitVec.getLsbD_or, hsn, s.actEvents_getLsbD h, Bool.or_false]

theorem State.nextBlock_flags_getLsbD (s : State) {n : Nat} (hn : n < 11) :
    s.nextBlock.flags.getLsbD n =
      ((s.cur.flags.getLsbD n && !s.cleared.getLsbD n) || s.eventsNext.getLsbD n) := by
  simp [State.nextBlock, hn]

theorem State.nextBlock_flag (s : State) (e : Event) :
    s.nextBlock.flag e =
      ((s.cur.flag e && !s.cleared.getLsbD e.code) || s.eventsNext.getLsbD e.code) :=
  s.nextBlock_flags_getLsbD e.code_lt

/-- Every event flag can be cleared: the mask of R224 leaves out bit 7 alone. -/
theorem clearMask_getLsbD (v : Word) (e : Event) :
    (clearMask v).getLsbD e.code = v.getLsbD e.code := by
  have hmask : (0x77F#11).getLsbD e.code = true := by
    cases e with
    | sensChg k => cases k <;> decide
    | _ => decide
  rw [clearMask, BitVec.getLsbD_and, hmask, BitVec.getLsbD_setWidth]
  simp [e.code_lt]

theorem State.cleared_iff (s : State) (e : Event) :
    s.cleared.getLsbD e.code = true ↔ s.Acknowledges e := by
  unfold State.cleared State.Acknowledges
  cases s.written 2#6 <;> simp [clearMask_getLsbD]

/-- IRQ is the OR of the enabled flags (R39, R264). -/
theorem Block.irq_iff (b : Block) :
    b.irq = true ↔ ∃ n, n < 11 ∧ b.flags.getLsbD n = true ∧ b.irqEn.getLsbD n = true := by
  have hzero : b.irq = true ↔ ¬(b.flags &&& b.irqEn.setWidth 11 = 0#11) := by
    rw [Block.irq, bne_iff_ne]
  rw [hzero, and_eq_zero_iff_bits]
  push Not
  refine exists_congr fun n => and_congr_right fun hn => ?_
  simp [hn, and_comm]

/-! ### The step -/

/-- All a step that answers a next state can do (R242, R290). -/
theorem step_next_cases {s t : State} (h : step s = .next t) :
    (s.inputs.rst = true ∧ t = s.resetCycle) ∨ (s.inputs.rst = false ∧ t = s.nextState) := by
  cases hr : s.inputs.rst with
  | true =>
    rw [step_reset hr] at h
    cases h
    exact .inl ⟨rfl, rfl⟩
  | false =>
    cases hf : s.fetchBus with
    | error r =>
      rw [step_refused hr hf] at h
      cases h
    | ok i? =>
      rw [step_normal hr hf] at h
      cases h
      exact .inr ⟨rfl, rfl⟩

theorem step_next_of_not_rst {s t : State} (hr : s.inputs.rst = false) (h : step s = .next t) :
    t = s.nextState := by
  rcases step_next_cases h with ⟨hr', -⟩ | ⟨-, ht⟩
  · simp [hr] at hr'
  · exact ht

/-- A bit of CTRL that ends at 0 was cleared in the cycle, or was 0 at its start. -/
theorem State.ctrlNext_off {s : State} {n : Nat} (hn : n < 8) (h : s.ctrlNext.getLsbD n = false) :
    s.clearsCtrl n = true ∨ s.cur.ctrl.getLsbD n = false := by
  unfold State.ctrlNext at h
  unfold State.clearsCtrl
  cases hw : s.written 1#6 with
  | none => exact .inr (by simpa [hw] using h)
  | some v => exact .inl (by simpa [hw, getLsbD_ctrlStored v hn] using h)

theorem State.nextBlock_sn (s : State) (k : Chan) : s.nextBlock.sn k = s.snNext k := by
  cases k <;> rfl

/-! ### Closing a frame and the holding registers -/

theorem State.wdCloses_iff (s : State) : s.wdCloses = true ↔ s.ClosesFrame := by
  simp only [State.wdCloses, State.wdRuns, Decoder.closes, Bool.and_eq_true, Bool.not_eq_true',
    bne_iff_ne, beq_iff_eq]
  tauto

theorem supported_iff (len : FrameCount) : supported len = true ↔ SupportedLength len := by
  simp [supported, or_assoc]

/-- The cycle loads CARD_* from a closed frame (R148, R154). -/
def State.loadsCard (s : State) : Bool :=
  s.wdCloses && supported s.cur.wd.count && !s.cur.flag .cardValid

/-- The cycle loads ERR_* from a closed frame (R148, R155). -/
def State.loadsErr (s : State) : Bool :=
  s.wdCloses && !supported s.cur.wd.count && !s.cur.flag .errValid

/-- All a cycle does to the holding registers. -/
theorem State.heldNext_eq (s : State) :
    s.heldNext =
      { s.cur with
        cardLo := if s.loadsCard then s.cur.wd.shift.extractLsb' 0 32 else s.cur.cardLo
        cardHi := if s.loadsCard then s.cur.wd.shift.extractLsb' 32 32 else s.cur.cardHi
        cardInfo := if s.loadsCard then (cardOf s.cur.wd.count s.cur.wd.shift).info else s.cur.cardInfo
        cardNum := if s.loadsCard then (cardOf s.cur.wd.count s.cur.wd.shift).num else s.cur.cardNum
        errLo := if s.loadsErr then s.cur.wd.shift.extractLsb' 0 32 else s.cur.errLo
        errHi := if s.loadsErr then s.cur.wd.shift.extractLsb' 32 32 else s.cur.errHi
        errLen := if s.loadsErr then s.cur.wd.count.setWidth 32 else s.cur.errLen } := by
  unfold State.heldNext State.wdHeld closedBlock State.loadsCard State.loadsErr
  cases s.wdCloses with
  | false => rfl
  | true =>
    cases supported s.cur.wd.count with
    | true => cases s.cur.flag .cardValid <;> rfl
    | false => cases s.cur.flag .errValid <;> rfl

theorem State.loadsCard_eq_false {s : State}
    (h : s.cur.flag .cardValid = true ∨ ¬(s.ClosesFrame ∧ SupportedLength s.cur.wd.count)) :
    s.loadsCard = false := by
  rw [← s.wdCloses_iff, ← supported_iff, ← Bool.and_eq_true, Bool.not_eq_true] at h
  rw [State.loadsCard, Bool.and_eq_false_iff, Bool.not_eq_false']
  exact h.symm

theorem State.loadsErr_eq_false {s : State}
    (h : s.cur.flag .errValid = true ∨ ¬(s.ClosesFrame ∧ ¬SupportedLength s.cur.wd.count)) :
    s.loadsErr = false := by
  rw [← s.wdCloses_iff, ← supported_iff, Bool.not_eq_true, ← Bool.not_eq_true', ← Bool.and_eq_true,
    Bool.not_eq_true] at h
  rw [State.loadsErr, Bool.and_eq_false_iff, Bool.not_eq_false']
  exact h.symm

/-- A supported frame that closes over an unread card report raises CARD_OVR (R154). -/
theorem State.wdEvents_overrun {s : State} (hc : s.ClosesFrame)
    (hl : SupportedLength s.cur.wd.count) (hv : s.cur.flag .cardValid = true) (n : Nat) :
    s.wdEvents.getLsbD n = decide (n = Event.cardOvr.code) := by
  rw [s.wdEvents_getLsbD, s.wdCloses_iff.mpr hc, closeEvent, if_pos ((supported_iff _).mpr hl),
    if_pos hv, Bool.true_and]

/-! ### The invariant of the decoder (R38, R83, R143) -/

theorem countUp_ne_zero (c : FrameCount) : countUp c ≠ 0#8 := by
  unfold countUp
  split
  · decide
  · bv_omega

theorem Decoder.stopped_inv : Decoder.stopped.Inv := by decide

theorem Decoder.age_inv {d : Decoder} (h : d.Inv) : d.age.Inv := by
  unfold Decoder.age
  split
  · exact ⟨fun _ => rfl, rfl⟩
  · split <;> exact h

theorem Decoder.append_inv {d : Decoder} (h : d.Inv) (b : Bool) : (d.append b).Inv :=
  ⟨fun h0 => absurd h0 (countUp_ne_zero _), frameFits_append h.2 b⟩

theorem Decoder.sample_inv {d : Decoder} (h : d.Inv) (silence : Word) (d0 d1 : Bool) :
    (d.sample silence d0 d1).Inv := by
  have happend : ∀ {a : Decoder} (c b : Bool), a.Inv → (if c then a.append b else a).Inv := by
    intro a c b ha
    split
    · exact Decoder.append_inv ha b
    · exact ha
  exact happend (d.prev1 && !d1) true (happend (d.prev0 && !d0) false (Decoder.age_inv h))

theorem State.wdNext_inv {s : State} (h : s.cur.wd.Inv) : s.wdNext.Inv := by
  unfold State.wdNext State.wdTicked
  split
  · exact Decoder.stopped_inv
  · split
    · split
      · exact Decoder.sample_inv h ..
      · exact h
    · exact h

/-! ### The invariant of the actuator (R38) -/

theorem Actuator.disarm_inv {a : Actuator} (h : a.Inv) : a.disarm.Inv := by
  obtain ⟨hpulse, -, hfault⟩ := h
  exact ⟨hpulse, fun harmed => absurd harmed Bool.false_ne_true, hfault⟩

/-- A pulse just started, with no relock armed. -/
theorem Actuator.startPulse_disarm_inv (a : Actuator) (dir : Bool) (pulse : Word) :
    (a.startPulse dir pulse).disarm.Inv :=
  ⟨fun _ => atLeastOne_ne_zero pulse, fun h => absurd h Bool.false_ne_true, fun _ => rfl⟩

/-- What the cycle's command does to the actuator: only an accepted one changes it (R183 to R186). -/
theorem State.commandAct_eq (s : State) (a : Actuator) :
    commandAct s.cur a s.command =
      if s.accepts then (a.startPulse (s.command == some .lock) s.cur.pulse).disarm else a := by
  unfold State.accepts
  cases s.command with
  | none => rfl
  | some op => cases op <;> cases h : s.cur.act.pActive <;> simp only [commandAct, h] <;> rfl

/-- All the actuator does in a cycle: it accepts a command, or runs its tick, or holds; a cancel of the
relock comes last (R201). -/
theorem State.actNext_cases (s : State) :
    ∃ a, s.actNext = (if s.clearsCtrl 1 then a.disarm else a) ∧
      ((s.accepts = true ∧
          a = (s.cur.act.startPulse (s.command == some .lock) s.cur.pulse).disarm) ∨
        (s.accepts = false ∧ s.inputs.tick = true ∧ a = tickAct s s.cur.act) ∨
        (s.accepts = false ∧ s.inputs.tick = false ∧ a = s.cur.act)) := by
  refine ⟨_, rfl, ?_⟩
  rw [State.commandAct_eq]
  cases s.accepts <;> cases s.inputs.tick <;> simp

theorem tickAct_inv {s : State} (h : s.cur.act.Inv) : (tickAct s s.cur.act).Inv := by
  obtain ⟨hpulse, hrelock, hfault⟩ := id h
  unfold tickAct
  split
  case isTrue hp =>
    have hidle : s.cur.act.rArmed ≠ true := fun hr =>
      Bool.false_ne_true ((hrelock hr).1.symm.trans hp)
    split
    · dsimp only
      split
      case isTrue harm =>
        have hunlocked : s.lockedAfter = false := by
          rw [Bool.and_eq_true, Bool.not_eq_true'] at harm
          exact harm.2
        exact ⟨nofun, fun _ => ⟨rfl, hunlocked, atLeastOne_ne_zero _⟩, fun _ => rfl⟩
      case isFalse => exact ⟨nofun, fun hr => absurd hr hidle, fun _ => rfl⟩
    case isFalse hlast =>
      exact ⟨fun _ => hlast, fun hr => absurd hr hidle,
        fun hnp => absurd (hnp.symm.trans hp) Bool.false_ne_true⟩
  case isFalse =>
    split
    case isTrue hr =>
      obtain ⟨hnp, hunlocked, hrem⟩ := hrelock hr
      split
      · split
        · exact Actuator.disarm_inv h
        · exact Actuator.startPulse_disarm_inv ..
      case isFalse hlast => exact ⟨hpulse, fun _ => ⟨hnp, hunlocked, by bv_omega⟩, hfault⟩
    case isFalse => exact h

theorem State.actNext_inv {s : State} (h : s.cur.act.Inv) : s.actNext.Inv := by
  obtain ⟨a, hnext, hcases⟩ := s.actNext_cases
  have ha : a.Inv := by
    rcases hcases with ⟨-, rfl⟩ | ⟨-, -, rfl⟩ | ⟨-, -, rfl⟩
    · exact Actuator.startPulse_disarm_inv ..
    · exact tickAct_inv h
    · exact h
  rw [hnext]
  split
  · exact Actuator.disarm_inv ha
  · exact ha

/-- Only strike mode arms a relock (R191, R200). -/
theorem tickAct_rArmed_of_latch {s : State} (hm : s.cur.autoRelock = false)
    (hr : s.cur.act.rArmed = false) : (tickAct s s.cur.act).rArmed = false := by
  unfold tickAct
  simp only [hm, Bool.false_and, Bool.false_eq_true, if_false]
  split
  · split <;> exact hr
  · rw [if_neg (by simp [hr])]
    exact hr

/-! ### The invariant of the block -/

theorem Block.reset_inv : Block.reset.Inv where
  decoder := by decide
  actuator := by decide
  reserved := by decide
  stopped := ⟨fun _ => rfl, fun k _ => by cases k <;> exact ⟨rfl, rfl⟩, fun _ => rfl⟩

theorem State.nextBlock_reserved {s : State} (h : s.cur.Reserved) : s.nextBlock.Reserved := by
  obtain ⟨hctrl, hirq, hflags, herr, hcard⟩ := h
  refine ⟨?ctrl, ?irq, ?flags, ?err, ?card⟩
  case ctrl =>
    change s.ctrlNext &&& _ = _
    unfold State.ctrlNext
    split
    · exact setWidth_byte_reserved _
    · exact hctrl
  case irq =>
    change s.irqEnNext &&& _ = _
    unfold State.irqEnNext
    split
    · exact irqStored_reserved _
    · exact hirq
  case flags =>
    rw [and_eq_zero_iff_bits] at hflags ⊢
    intro n hn hm
    have hmask : ∀ i < 11, (0x080#11).getLsbD i = true → i = 7 := by decide
    have h7 : n = 7 := hmask n hn hm
    have hraised : s.eventsNext.getLsbD n = false := by
      rw [s.eventsNext_getLsbD (.inr h7), s.wdEvents_getLsbD, h7,
        decide_eq_false (closeEvent _ _).code_ne_seven.symm, Bool.and_false]
    rw [s.nextBlock_flags_getLsbD hn, hflags n hn hm, hraised, Bool.false_and, Bool.false_or]
  case err =>
    change s.heldNext.errLen &&& _ = _
    rw [s.heldNext_eq]
    dsimp only
    split
    · exact setWidth_byte_reserved _
    · exact herr
  case card =>
    change s.heldNext.cardInfo &&& _ = _
    rw [s.heldNext_eq]
    dsimp only
    split
    · exact cardOf_reserved ..
    · exact hcard

theorem State.nextBlock_stoppedIdle {s : State} (h : s.cur.StoppedIdle) :
    s.nextBlock.StoppedIdle := by
  obtain ⟨hwd, hsn, hact⟩ := h
  refine ⟨?decoder, ?channels, ?relock⟩
  case decoder =>
    intro hoff
    change s.wdNext = _
    unfold State.wdNext
    rcases State.ctrlNext_off (by decide) hoff with hclr | hcur
    · rw [if_pos hclr]
    · have hen : s.cur.wdEn = false := hcur
      simp [State.wdRuns, hen, hwd hen]
  case channels =>
    intro k hoff
    rw [s.nextBlock_sn]
    unfold State.snNext
    rcases State.ctrlNext_off (by cases k <;> decide) hoff with hclr | hcur
    · rw [if_pos hclr]
      exact ⟨rfl, rfl⟩
    · have hen : s.cur.sensEn k = false := hcur
      have hheld := hsn k hen
      split
      · exact ⟨rfl, rfl⟩
      · simpa [State.snRuns, hen] using hheld
  case relock =>
    intro hoff
    obtain ⟨a, hnext, hcases⟩ := s.actNext_cases
    change s.actNext.rArmed = false
    rw [hnext]
    rcases State.ctrlNext_off (by decide) hoff with hclr | hcur
    · rw [if_pos hclr]
      rfl
    · have hm : s.cur.autoRelock = false := hcur
      have ha : a.rArmed = false := by
        rcases hcases with ⟨-, rfl⟩ | ⟨-, -, rfl⟩ | ⟨-, -, rfl⟩
        · rfl
        · exact tickAct_rArmed_of_latch hm (hact hm)
        · exact hact hm
      split
      · rfl
      · exact ha

theorem State.nextBlock_inv {s : State} (h : s.cur.Inv) : s.nextBlock.Inv where
  decoder := State.wdNext_inv h.decoder
  actuator := State.actNext_inv h.actuator
  reserved := State.nextBlock_reserved h.reserved
  stopped := State.nextBlock_stoppedIdle h.stopped

end Sys2Proof.Machine

namespace Sys2Proof.Proofs

open Sys2Proof.Machine

/-- Settles O47: a reset cycle gives the reset block, and every other cycle the block of R242, whose
parts each keep theirs. -/
theorem stepKeepsInvariant : Obligations.StepKeepsInvariant := by
  intro s t hinv hstep
  rcases step_next_cases hstep with ⟨-, rfl⟩ | ⟨-, rfl⟩
  · exact ⟨Block.reset_inv, rfl, rfl⟩
  · exact ⟨State.nextBlock_inv hinv, rfl, rfl⟩

/-- Settles O39: a holding register changes only in a cycle that loads it, and the only event of bits
0 to 3 in a cycle of overrun is CARD_OVR. -/
theorem holdingRule : Obligations.HoldingRule := by
  intro s t hr hstep
  obtain rfl := step_next_of_not_rst hr hstep
  refine ⟨?card, ?err, ?overrun⟩
  case card =>
    intro h
    change s.heldNext.cardLo = _ ∧ s.heldNext.cardHi = _ ∧ s.heldNext.cardInfo = _ ∧
      s.heldNext.cardNum = _
    simp [s.heldNext_eq, State.loadsCard_eq_false h]
  case err =>
    intro h
    change s.heldNext.errLo = _ ∧ s.heldNext.errHi = _ ∧ s.heldNext.errLen = _
    simp [s.heldNext_eq, State.loadsErr_eq_false h]
  case overrun =>
    intro hc hl hv hack
    change s.nextBlock.flag .cardOvr = true ∧ s.nextBlock.flag .cardValid = false
    have hevents : ∀ n < 4, s.eventsNext.getLsbD n = decide (n = Event.cardOvr.code) := fun n hn => by
      rw [s.eventsNext_getLsbD (.inl hn), State.wdEvents_overrun hc hl hv]
    rw [s.nextBlock_flag, s.nextBlock_flag, (s.cleared_iff .cardValid).mpr hack,
      hevents _ (by decide), hevents _ (by decide)]
    simp [Event.code]

/-- Settles O1: the reset block is the listed one by its definition (R40). -/
theorem resetValues : Obligations.ResetValues :=
  ⟨rfl, rfl, rfl, rfl⟩

/-- Settles O2: strike mode is on at reset, and the lock is LOCKED. -/
theorem resetMeetsInvariant : Obligations.ResetMeetsInvariant :=
  ⟨Block.reset_inv, fun _ hunlocked => absurd hunlocked (by decide), rfl, rfl⟩

/-- Settles O44: the relay lines differ in p_dir, and IRQ is a masked vector that is not 0 (R39). -/
theorem outputsAreFunctionsOfState : Obligations.OutputsAreFunctionsOfState := by
  intro b
  refine ⟨rfl, rfl, ?_, b.irq_iff⟩
  rw [Block.lockOut, Block.unlockOut]
  cases b.act.pDir <;> simp

end Sys2Proof.Proofs

/-! Proofs of the statements on the register port and the write timing (spec/20_memory.md): the accesses
the port cannot express, the reserved and read-only indices, reads without side effect, and writes that
take effect at the end of their cycle. -/

namespace Sys2Proof

/-! ### The platform adapter (R64 to R66) -/

/-- An offset that is a multiple of 4 names the register of its upper six bits (R65). -/
theorem extractLsb'_aligned (i : RegIndex) :
    (i ++ 0#2).extractLsb' 0 2 = 0#2 ∧ (i ++ 0#2).extractLsb' 2 6 = i := by
  constructor
  · exact BitVec.extractLsb'_append_eq_right
  · exact BitVec.extractLsb'_append_eq_left

/-- The four bytes of a register, put together again, are the register (R66). -/
theorem append_wordBytes (v : Word) :
    v.extractLsb' 24 8 ++ v.extractLsb' 16 8 ++ v.extractLsb' 8 8 ++ v.extractLsb' 0 8 = v := by
  rw [BitVec.extractLsb'_append_extractLsb'_eq_extractLsb' (show 24 = 16 + 8 from rfl),
    BitVec.extractLsb'_append_extractLsb'_eq_extractLsb' (show 16 = 8 + 8 from rfl),
    BitVec.extractLsb'_append_extractLsb'_eq_extractLsb' (show 8 = 0 + 8 from rfl)]
  exact BitVec.extractLsb'_eq_self

theorem toTxn_load_width {o : BitVec 8} {n : Nat} (h : n ≠ 4) :
    BusReq.toTxn (.load o n) = .error .accessWidth := if_pos h

theorem toTxn_load_misaligned {o : BitVec 8} (h : o.extractLsb' 0 2 ≠ 0#2) :
    BusReq.toTxn (.load o 4) = .error .misaligned := by
  simp [BusReq.toTxn, h]

theorem toTxn_store_width {o : BitVec 8} {l : List Byte} (h : l.length ≠ 4) :
    BusReq.toTxn (.store o l) = .error .accessWidth := by
  match l with
  | [] | [_] | [_, _] | [_, _, _] | _ :: _ :: _ :: _ :: _ :: _ => rfl
  | [_, _, _, _] => exact absurd rfl h

theorem toTxn_store_misaligned {o : BitVec 8} {l : List Byte} (hl : l.length = 4)
    (h : o.extractLsb' 0 2 ≠ 0#2) : BusReq.toTxn (.store o l) = .error .misaligned := by
  obtain ⟨b0, b1, b2, b3, rfl⟩ := List.length_eq_four.mp hl
  exact if_pos h

theorem toTxn_load_aligned (i : RegIndex) :
    BusReq.toTxn (.load (i ++ 0#2) 4) = .ok (readWord i) := by
  obtain ⟨hlow, hidx⟩ := extractLsb'_aligned i
  simp [BusReq.toTxn, hlow, hidx]

theorem toTxn_store_aligned (i : RegIndex) (v : Word) :
    BusReq.toTxn (.store (i ++ 0#2) (wordBytes v)) = .ok (writeWord i v) := by
  obtain ⟨hlow, hidx⟩ := extractLsb'_aligned i
  rw [wordBytes, BusReq.toTxn, if_neg (not_not_intro hlow), hidx, append_wordBytes]

end Sys2Proof

namespace Sys2Proof.Machine

theorem step_refused_of_toTxn {s : State} {r : BusReq} {e : PortReject} (hr : s.inputs.rst = false)
    (hb : s.inputs.bus = [r]) (he : r.toTxn = .error e) : step s = .refused (refusalOf e) :=
  step_refused hr (by simp [State.fetchBus, hb, he])

theorem step_refused_of_conflict {s : State} (hr : s.inputs.rst = false)
    (hb : 2 ≤ s.inputs.bus.length) : step s = .refused .busConflict := by
  apply step_refused hr
  unfold State.fetchBus
  match h : s.inputs.bus with
  | [] | [_] => simp [h] at hb
  | _ :: _ :: _ => rfl

/-! ### Reserved and read-only indices (R67) -/

/-- The reserved indices, 11 and 20 to 63. -/
def reservedIndices : List RegIndex := 11#6 :: (List.range' 20 44).map (BitVec.ofNat 6)

/-- The indices of the read-only registers, ID to RELOCK_REM. -/
def readOnlyIndices : List RegIndex := 0#6 :: (List.range' 12 8).map (BitVec.ofNat 6)

theorem regRead_reserved (b : Block) {i : RegIndex} (h : i.toNat = 11 ∨ 20 ≤ i.toNat) :
    b.regRead i = 0#32 := by
  have hlt : i.toNat < 64 := i.isLt
  unfold Block.regRead
  generalize i.toNat = n at h hlt
  rcases h with rfl | hge
  · rfl
  · interval_cases n <;> rfl

theorem writeEffect_ignored (s : State) {n : Nat} (v : Word) (h : n = 0 ∨ 10 < n) :
    writeEffect s n v = s := by
  unfold writeEffect
  split <;> first | omega | rfl

/-- The rows of R85 that the reserved indices select read 0. -/
theorem exec_reservedRead (s : State) {i : Instr}
    (h : i ∈ reservedIndices.map fun k => readRows.getD k.toNat .rdRsvd63) :
    exec i s = .next (s.answer 0#32) := by
  obtain ⟨k, hk, rfl⟩ := List.mem_map.mp h
  have hrange : ∀ k ∈ reservedIndices, k.toNat = 11 ∨ 20 ≤ k.toNat := by decide
  rw [exec_readRow, regRead_reserved _ (hrange k hk)]

/-- The rows of R85 that the read-only and the reserved indices select ignore a write. -/
theorem exec_ignoredWrite (s : State) (v : Word) {i : Instr}
    (h : i ∈ (readOnlyIndices ++ reservedIndices).map fun k => writeRows.getD k.toNat .wrRsvd63 v) :
    exec i s = .next s := by
  obtain ⟨k, hk, rfl⟩ := List.mem_map.mp h
  have hrange : ∀ k ∈ readOnlyIndices ++ reservedIndices, k.toNat = 0 ∨ 10 < k.toNat := by decide
  rw [exec_writeRow s _ k.isLt, writeEffect_ignored s v (hrange k hk)]

/-! ### What a cycle writes -/

theorem busTxn_txn {p : Inputs} {w : TxnWord} (h : p.bus = [.txn w]) : busTxn p = some w := by
  simp [busTxn, h, BusReq.toTxn, Except.toOption]

theorem busTxn_nil {p : Inputs} (h : p.bus = []) : busTxn p = none := by
  simp [busTxn, h]

theorem State.written_of_read {s : State} {w : TxnWord} (hb : s.inputs.bus = [.txn w])
    (hd : txnDir w = false) (i : RegIndex) : s.written i = none := by
  simp [State.written_of (busTxn_txn hb), hd]

theorem State.written_of_write {s : State} {i : RegIndex} {v : Word}
    (hb : s.inputs.bus = [.txn (writeWord i v)]) (j : RegIndex) :
    s.written j = if i = j then some v else none := by
  simp [State.written_of (busTxn_txn hb)]

theorem State.written_map_getD_of_write {s : State} {i : RegIndex} {v : Word}
    (hb : s.inputs.bus = [.txn (writeWord i v)]) (j : RegIndex) (f : Word → Word) (x : Word) :
    ((s.written j).map f).getD x = if i = j then f v else x := by
  rw [State.written_of_write hb]
  split <;> rfl

theorem State.written_getD_of_write {s : State} {i : RegIndex} {v : Word}
    (hb : s.inputs.bus = [.txn (writeWord i v)]) (j : RegIndex) (x : Word) :
    (s.written j).getD x = if i = j then v else x := by
  simpa using State.written_map_getD_of_write hb j id x

theorem State.rdataNext_of_read {s : State} {w : TxnWord} (hb : s.inputs.bus = [.txn w])
    (hd : txnDir w = false) : s.rdataNext = some (s.cur.regRead (txnIdx w)) := by
  simp [State.rdataNext, busTxn_txn hb, hd]

theorem State.rdataNext_of_nil {s : State} (hb : s.inputs.bus = []) : s.rdataNext = none := by
  simp [State.rdataNext, busTxn_nil hb]

theorem ctrlStored_eq (v : Word) : ctrlStored v = v &&& 0xFF#32 := by
  apply BitVec.eq_of_getLsbD_eq
  intro n hn
  have hmask : ∀ i < 32, (0xFF#32).getLsbD i = decide (i < 8) := by decide
  rw [BitVec.getLsbD_and, hmask n hn]
  simp [ctrlStored, hn, Bool.and_comm]

theorem State.ctrlNext_eq (s : State) :
    s.ctrlNext = ((s.written 1#6).map (· &&& 0xFF#32)).getD s.cur.ctrl := by
  unfold State.ctrlNext
  cases s.written 1#6 with
  | none => rfl
  | some v => exact ctrlStored_eq v

theorem State.irqEnNext_eq (s : State) :
    s.irqEnNext = ((s.written 3#6).map (· &&& 0x77F#32)).getD s.cur.irqEn := by
  unfold State.irqEnNext
  cases s.written 3#6 <;> rfl

/-! ### The units' work does not depend on other transactions -/

/-- Two cycles give the units the same work: they start at the same block, have the same pins, and write
the same to CTRL and to CMD, the registers whose writes the units see (R14, R15). -/
structure State.SameWork (s u : State) : Prop where
  cur : u.cur = s.cur
  pins : u.inputs = { s.inputs with bus := u.inputs.bus }
  ctrl : u.written 1#6 = s.written 1#6
  cmd : u.written 4#6 = s.written 4#6

namespace State.SameWork

variable {s u : State}

theorem tick (h : s.SameWork u) : u.inputs.tick = s.inputs.tick := by rw [h.pins]
theorem d0 (h : s.SameWork u) : u.inputs.d0 = s.inputs.d0 := by rw [h.pins]
theorem d1 (h : s.SameWork u) : u.inputs.d1 = s.inputs.d1 := by rw [h.pins]
theorem fault (h : s.SameWork u) : u.inputs.fault = s.inputs.fault := by rw [h.pins]
theorem sens (h : s.SameWork u) (k : Chan) : u.inputs.sens k = s.inputs.sens k := by
  rw [h.pins]; cases k <;> rfl

theorem clearsCtrl (h : s.SameWork u) (n : Nat) : u.clearsCtrl n = s.clearsCtrl n := by
  rw [State.clearsCtrl, State.clearsCtrl, h.ctrl]

theorem command (h : s.SameWork u) : u.command = s.command := by
  rw [State.command, State.command, h.cmd]

theorem wdRuns (h : s.SameWork u) : u.wdRuns = s.wdRuns := by
  rw [State.wdRuns, State.wdRuns, h.tick, h.clearsCtrl, h.cur]

theorem wdCloses (h : s.SameWork u) : u.wdCloses = s.wdCloses := by
  rw [State.wdCloses, State.wdCloses, h.wdRuns, h.cur]

theorem wdNext (h : s.SameWork u) : u.wdNext = s.wdNext := by
  simp only [State.wdNext, State.wdTicked, h.clearsCtrl, h.wdRuns, h.cur, h.d0, h.d1]

theorem heldNext (h : s.SameWork u) : u.heldNext = s.heldNext := by
  simp only [State.heldNext, State.wdHeld, h.wdCloses, h.cur]

theorem snRuns (h : s.SameWork u) (k : Chan) : u.snRuns k = s.snRuns k := by
  rw [State.snRuns, State.snRuns, h.tick, h.clearsCtrl, h.cur]

theorem snNext (h : s.SameWork u) (k : Chan) : u.snNext k = s.snNext k := by
  simp only [State.snNext, State.snTicked, h.clearsCtrl, h.snRuns, h.cur, h.sens]

theorem accepts (h : s.SameWork u) : u.accepts = s.accepts := by
  rw [State.accepts, State.accepts, h.command, h.cur]

theorem pulseFault (h : s.SameWork u) : u.pulseFault = s.pulseFault := by
  rw [State.pulseFault, State.pulseFault, h.cur, h.fault]

theorem lockedAfter (h : s.SameWork u) : u.lockedAfter = s.lockedAfter := by
  rw [State.lockedAfter, State.lockedAfter, h.pulseFault, h.cur]

theorem tickAct (h : s.SameWork u) (a : Actuator) : tickAct u a = tickAct s a := by
  rw [Machine.tickAct, Machine.tickAct, h.pulseFault, h.lockedAfter, h.cur]

theorem actNext (h : s.SameWork u) : u.actNext = s.actNext := by
  simp only [State.actNext, State.actFormed, h.clearsCtrl, h.command, h.accepts, h.tick, h.tickAct,
    h.cur]

theorem wdEvents (h : s.SameWork u) : u.wdEvents = s.wdEvents := by
  rw [State.wdEvents, State.wdEvents, h.wdCloses, h.cur]

theorem snEvents (h : s.SameWork u) (k : Chan) : u.snEvents k = s.snEvents k := by
  rw [State.snEvents, State.snEvents, State.snPublishes, State.snPublishes, h.snRuns, h.sens, h.cur]

theorem tickEvents (h : s.SameWork u) : tickEvents u = tickEvents s := by
  rw [Machine.tickEvents, Machine.tickEvents, h.pulseFault, h.cur]

theorem actEvents (h : s.SameWork u) : u.actEvents = s.actEvents := by
  rw [State.actEvents, State.actEvents, h.command, h.accepts, h.tick, h.tickEvents, h.cur]

theorem eventsNext (h : s.SameWork u) : u.eventsNext = s.eventsNext := by
  simp only [State.eventsNext, h.wdEvents, h.snEvents, h.actEvents]

end State.SameWork

/-- A cycle that writes none of CTRL, STATUS and CMD ends in the block of the same cycle without a
transaction, the register it writes apart (R63). -/
theorem State.nextBlock_without_txn {s u : State} (hcur : u.cur = s.cur)
    (hin : u.inputs = { s.inputs with bus := [] }) (hctrl : s.written 1#6 = none)
    (hstatus : s.written 2#6 = none) (hcmd : s.written 4#6 = none) :
    s.nextBlock =
      { u.nextBlock with
        irqEn := ((s.written 3#6).map (· &&& 0x77F#32)).getD u.nextBlock.irqEn
        silence := (s.written 5#6).getD u.nextBlock.silence
        pulse := (s.written 6#6).getD u.nextBlock.pulse
        relock := (s.written 7#6).getD u.nextBlock.relock
        debounce0 := (s.written 8#6).getD u.nextBlock.debounce0
        debounce1 := (s.written 9#6).getD u.nextBlock.debounce1
        debounce2 := (s.written 10#6).getD u.nextBlock.debounce2 } := by
  have hnone : ∀ i, u.written i = none :=
    u.written_none fun w hw => by simp [busTxn_nil, hin] at hw
  have hwork : s.SameWork u :=
    ⟨hcur, by rw [hin], (hnone _).trans hctrl.symm, (hnone _).trans hcmd.symm⟩
  simp only [State.nextBlock, State.ctrlNext, State.cleared, hnone, hctrl, hstatus,
    State.irqEnNext_eq, Option.map_none, hcur,
    hwork.heldNext, hwork.wdNext, hwork.snNext, hwork.actNext, hwork.eventsNext, Option.getD_none]

theorem State.inputs_without_txn {s : State} {p q : Inputs} {ps qs : List Inputs}
    (hstim : s.stim = p :: ps) (hq : q = { p with bus := [] }) :
    ({ s with stim := q :: qs } : State).inputs = { s.inputs with bus := [] } := by
  rw [State.inputs_of_stim hstim, ← hq]
  rfl

/-- `nextBlock_without_txn` of two steps, the second given the inputs of the first without the
transaction. -/
theorem step_without_txn {s r t u : State} (hst : step s = .next t) (hru : step r = .next u)
    (hcur : r.cur = s.cur) (hin : r.inputs = { s.inputs with bus := [] })
    (hr : s.inputs.rst = false) (hctrl : s.written 1#6 = none) (hstatus : s.written 2#6 = none)
    (hcmd : s.written 4#6 = none) :
    t.rdata = s.rdataNext ∧ u.rdata = none ∧
      t.cur =
        { u.cur with
          irqEn := ((s.written 3#6).map (· &&& 0x77F#32)).getD u.cur.irqEn
          silence := (s.written 5#6).getD u.cur.silence
          pulse := (s.written 6#6).getD u.cur.pulse
          relock := (s.written 7#6).getD u.cur.relock
          debounce0 := (s.written 8#6).getD u.cur.debounce0
          debounce1 := (s.written 9#6).getD u.cur.debounce1
          debounce2 := (s.written 10#6).getD u.cur.debounce2 } := by
  obtain rfl := step_next_of_not_rst hr hst
  obtain rfl := step_next_of_not_rst (by rw [hin]; exact hr) hru
  exact ⟨rfl, State.rdataNext_of_nil (by rw [hin]),
    State.nextBlock_without_txn hcur hin hctrl hstatus hcmd⟩

/-- A cycle with no tick that writes nothing leaves the block as it is (R271, R272). -/
theorem State.nextBlock_of_idle {s : State} (ht : s.inputs.tick = false)
    (hw : ∀ i, s.written i = none) : s.nextBlock = s.cur := by
  have hclr : ∀ n, s.clearsCtrl n = false := fun n => by simp [State.clearsCtrl, hw]
  have hcmd : s.command = none := by simp [State.command, hw]
  have hwd : s.wdRuns = false := by simp [State.wdRuns, ht]
  have hcloses : s.wdCloses = false := by simp [State.wdCloses, hwd]
  have hsn : ∀ k, s.snRuns k = false := fun k => by simp [State.snRuns, ht]
  have hevents : s.eventsNext = 0#11 := by
    simp [State.eventsNext, State.wdEvents, State.snEvents, State.snPublishes, State.actEvents,
      commandEvents, hcloses, hsn, hcmd, ht]
  have hact : s.actNext = s.cur.act := by
    simp [State.actNext, State.actFormed, commandAct, hclr, hcmd, ht]
  have hflags : (s.cur.flags &&& ~~~s.cleared) ||| s.eventsNext = s.cur.flags := by
    rw [hevents, BitVec.or_zero, State.cleared, hw]
    exact and_not_zero _
  have hheld : s.heldNext = s.cur := by simp [State.heldNext, State.wdHeld, hcloses]
  simp only [State.nextBlock, State.ctrlNext, State.irqEnNext, State.wdNext, State.snNext, hw,
    Option.getD_none, hflags, hheld, hclr, hwd, hsn, hact, Bool.false_eq_true, if_false, Block.sn]

end Sys2Proof.Machine

namespace Sys2Proof.Proofs

open Sys2Proof.Machine

/-- Settles O12: a read writes no register, so its cycle differs from the one without it in the read
data alone. -/
theorem readOfAnyWord : Obligations.ReadOfAnyWord := by
  refine ⟨?answers, ?without, ?unchanged⟩
  case answers =>
    intro s w hd
    rw [exec_decodeTxn, busEffect, if_neg (by simp [hd])]
    rfl
  case without =>
    intro s t u p q ps qs w hstim hr hb hd hq hst hsu
    have hs := State.inputs_of_stim hstim
    have hread : s.inputs.bus = [.txn w] := by rw [hs, hb]
    have hw := State.written_of_read hread hd
    obtain ⟨htdata, hudata, hcur⟩ := step_without_txn hst hsu rfl
      (State.inputs_without_txn hstim hq) (by rw [hs, hr]) (hw _) (hw _) (hw _)
    refine ⟨?block, htdata.trans (State.rdataNext_of_read hread hd), hudata⟩
    simpa only [hw, Option.map_none, Option.getD_none] using hcur
  case unchanged =>
    intro s t w hr ht hb hd hstep i
    obtain rfl := step_next_of_not_rst hr hstep
    change s.nextBlock.regRead i = _
    rw [State.nextBlock_of_idle ht (State.written_of_read hb hd)]

/-- Settles O43: the units see only writes of CTRL and CMD, so a write of another register shows in that
register alone. -/
theorem writesTakeEffectAtCycleEnd : Obligations.WritesTakeEffectAtCycleEnd := by
  refine ⟨?stored, ?units⟩
  case stored =>
    intro s t hr hstep
    obtain rfl := step_next_of_not_rst hr hstep
    exact ⟨s.ctrlNext_eq, s.irqEnNext_eq, rfl, rfl, rfl, rfl, rfl, rfl⟩
  case units =>
    intro s t u p q ps qs i v hstim hr hb hq hi hst hsu
    have hs := State.inputs_of_stim hstim
    have hwrite : s.inputs.bus = [.txn (writeWord i v)] := by rw [hs, hb]
    have hother : ∀ j : RegIndex, j = 1#6 ∨ j = 2#6 ∨ j = 4#6 → s.written j = none := by
      intro j hj
      rw [State.written_of_write hwrite, if_neg]
      bv_omega
    obtain ⟨-, -, hcur⟩ := step_without_txn hst hsu rfl (State.inputs_without_txn hstim hq)
      (by rw [hs, hr]) (hother _ (.inl rfl)) (hother _ (.inr (.inl rfl))) (hother _ (.inr (.inr rfl)))
    simpa only [State.written_getD_of_write hwrite, State.written_map_getD_of_write hwrite] using hcur

/-- Settles O7: each refusal is that of the request's word, or of two requests at once. -/
theorem refusesInexpressibleAccesses : Obligations.RefusesInexpressibleAccesses := by
  refine ⟨?loadWidth, ?storeWidth, ?misaligned, ?conflict, toTxn_load_aligned, toTxn_store_aligned⟩
  case loadWidth =>
    intro s o n hr hb hn
    exact step_refused_of_toTxn hr hb (toTxn_load_width hn)
  case storeWidth =>
    intro s o l hr hb hl
    exact step_refused_of_toTxn hr hb (toTxn_store_width hl)
  case misaligned =>
    intro s o l hr hl hb ho
    rcases hb with hload | hstore
    · exact step_refused_of_toTxn hr hload (toTxn_load_misaligned ho)
    · exact step_refused_of_toTxn hr hstore (toTxn_store_misaligned hl ho)
  case conflict =>
    intro s hr hb
    exact step_refused_of_conflict hr hb

/-- Settles O11: the rows listed are those of the reserved and the read-only indices. -/
theorem reservedAndReadOnlyAccesses : Obligations.ReservedAndReadOnlyAccesses :=
  ⟨fun s _ hi => exec_reservedRead s hi, fun s v _ hi => exec_ignoredWrite s v hi⟩

end Sys2Proof.Proofs

/-! Proofs of the statements on the encoding (spec/30_encoding.md): transaction words and the rows they
select, frames as bits in the order received, and the round trip of the encoder. -/

namespace Sys2Proof

/-! ### Transaction words (R84, R98) -/

theorem decodeTxn_of_read {w : TxnWord} (hd : txnDir w = false) :
    decodeTxn w = readRows.getD (txnIdx w).toNat .rdRsvd63 := by
  rw [decodeTxn, hd, if_neg Bool.false_ne_true]

theorem decodeTxn_of_write {w : TxnWord} (hd : txnDir w = true) (hi : txnIdx w ≠ 4#6) :
    decodeTxn w = writeRows.getD (txnIdx w).toNat .wrRsvd63 (txnData w) := by
  rw [decodeTxn, if_pos hd, if_neg hi]

theorem decodeTxn_of_command {w : TxnWord} (hd : txnDir w = true) (hi : txnIdx w = 4#6) :
    decodeTxn w = decodeCmd (txnData w) := by
  rw [decodeTxn, if_pos hd, if_pos hi]

theorem decodeTxn_readWord (i : RegIndex) :
    decodeTxn (readWord i) = readRows.getD i.toNat .rdRsvd63 := by
  rw [decodeTxn_of_read (txnDir_readWord i), txnIdx_readWord]

theorem decodeTxn_writeWord {i : RegIndex} (hi : i ≠ 4#6) (v : Word) :
    decodeTxn (writeWord i v) = writeRows.getD i.toNat .wrRsvd63 v := by
  rw [decodeTxn_of_write (txnDir_writeWord i v) (by rwa [txnIdx_writeWord]), txnIdx_writeWord,
    txnData_writeWord]

theorem decodeTxn_writeCommand (v : Word) : decodeTxn (writeWord 4#6 v) = decodeCmd v := by
  rw [decodeTxn_of_command (txnDir_writeWord _ v) (txnIdx_writeWord _ v), txnData_writeWord]

/-- A word with DIR = 1 is the write of its DATA to its index. -/
theorem writeWord_fields {w : TxnWord} (hd : txnDir w = true) :
    writeWord (txnIdx w) (txnData w) = w := by
  apply BitVec.eq_of_getLsbD_eq
  intro n hn
  rw [getLsbD_writeWord]
  split
  case isTrue hdata => simp [txnData, hdata]
  case isFalse hdata =>
    split
    case isTrue hidx =>
      have hfield : n - 32 < 6 := by omega
      have hpos : 32 + (n - 32) = n := by omega
      simp [txnIdx, hfield, hpos]
    case isFalse hidx =>
      obtain rfl : n = 38 := by omega
      exact hd.symm

/-! ### Rows and their encodings (R85 to R88) -/

theorem decodeCmd_reserved {v : Word} (h0 : v ≠ 0#32) (h1 : v ≠ 1#32) (h2 : v ≠ 2#32) :
    decodeCmd v = .cmdRsvd v := by
  rw [decodeCmd, if_neg h0, if_neg h1, if_neg h2]

theorem cmdRsvd_wf_iff (v : Word) :
    (Instr.cmdRsvd v).wf = true ↔ v ≠ 0#32 ∧ v ≠ 1#32 ∧ v ≠ 2#32 := by
  simp [Instr.wf, and_assoc]

/-- A command word decodes to a row of the table, which encodes to that word. -/
theorem decodeCmd_row (v : Word) :
    (decodeCmd v).wf = true ∧ encode (decodeCmd v) = encodeWrite 4#6 v := by
  by_cases h0 : v = 0#32
  · subst h0
    exact ⟨rfl, rfl⟩
  by_cases h1 : v = 1#32
  · subst h1
    exact ⟨rfl, rfl⟩
  by_cases h2 : v = 2#32
  · subst h2
    exact ⟨rfl, rfl⟩
  rw [decodeCmd_reserved h0 h1 h2]
  exact ⟨(cmdRsvd_wf_iff v).mpr ⟨h0, h1, h2⟩, rfl⟩

/-- The read row at an index encodes to the read of that index. -/
theorem readRows_row (i : RegIndex) :
    (readRows.getD i.toNat .rdRsvd63).wf = true ∧
      encode (readRows.getD i.toNat .rdRsvd63) = encodeRead i := by
  obtain ⟨n, hn⟩ := i
  interval_cases n <;> exact ⟨rfl, rfl⟩

/-- The write row at an index encodes to the write of that index. -/
theorem writeRows_row (i : RegIndex) (v : Word) :
    (writeRows.getD i.toNat .wrRsvd63 v).wf = true ∧
      encode (writeRows.getD i.toNat .wrRsvd63 v) = encodeWrite i v := by
  obtain ⟨n, hn⟩ := i
  interval_cases n <;> exact ⟨rfl, rfl⟩

/-- A transaction word decodes to a row of the table, which encodes to the word's own fields. -/
theorem decodeTxn_row (w : TxnWord) :
    (decodeTxn w).wf = true ∧
      encode (decodeTxn w) =
        if txnDir w then encodeWrite (txnIdx w) (txnData w) else encodeRead (txnIdx w) := by
  cases hd : txnDir w with
  | false =>
    rw [decodeTxn_of_read hd]
    exact readRows_row _
  | true =>
    by_cases hi : txnIdx w = 4#6
    · rw [decodeTxn_of_command hd hi, hi]
      exact decodeCmd_row _
    · rw [decodeTxn_of_write hd hi]
      exact writeRows_row _ _

/-- An instruction that encodes to the read of its own row is decoded again. -/
theorem decode_of_encodeRead {i : Instr} {n : RegIndex} {c : Code} (h : encodeRead n = some c)
    (hrow : readRows.getD n.toNat .rdRsvd63 = i) : decode c = .ok i := by
  obtain rfl := Option.some.inj h
  exact congrArg Except.ok ((decodeTxn_readWord n).trans hrow)

/-- An instruction that encodes to the write of its own row, not that of CMD, is decoded again. -/
theorem decode_of_encodeWrite {i : Instr} {n : RegIndex} {v : Word} {c : Code}
    (h : encodeWrite n v = some c) (hn : n ≠ 4#6) (hrow : writeRows.getD n.toNat .wrRsvd63 v = i) :
    decode c = .ok i := by
  obtain rfl := Option.some.inj h
  exact congrArg Except.ok ((decodeTxn_writeWord hn v).trans hrow)

/-- An instruction that encodes to its own command word is decoded again. -/
theorem decode_of_encodeCommand {i : Instr} {v : Word} {c : Code}
    (h : encodeWrite 4#6 v = some c) (hcmd : decodeCmd v = i) : decode c = .ok i := by
  obtain rfl := Option.some.inj h
  exact congrArg Except.ok ((decodeTxn_writeCommand v).trans hcmd)

/-! ### Frames (R82, R83, R143) -/

theorem toNat_frameCount (bits : List Bool) : (frameCount bits).toNat = min bits.length 255 := by
  rw [frameCount, toNat_foldl_countUp]
  simp

/-- Bit n of the raw value is the bit received n places before the last (R83). -/
theorem getLsbD_frameValue {bits : List Bool} (hlen : bits.length ≤ 64) (n : Nat) :
    (frameValue bits).getLsbD n =
      if n < bits.length then bits.getD (bits.length - 1 - n) false else false := by
  by_cases hn : n < 64
  · rw [frameValue, getLsbD_foldl_appendBit bits _ n hn, BitVec.getLsbD_zero]
  · rw [BitVec.getLsbD_of_ge _ _ (by omega), if_neg (by omega)]

theorem frameValue_concat (bits : List Bool) (b : Bool) :
    frameValue (bits ++ [b]) = appendBit (frameValue bits) b := by
  simp [frameValue]

/-- A raw value has no bit at or above the frame's length. -/
theorem toNat_frameValue_lt {bits : List Bool} (hlen : bits.length ≤ 64) :
    (frameValue bits).toNat < 2 ^ bits.length := by
  induction bits using List.reverseRecOn with
  | nil => simp [frameValue]
  | append_singleton bits b ih =>
    rw [List.length_append, List.length_singleton] at hlen ⊢
    rw [frameValue_concat]
    exact BitVec.toNat_shiftConcat_lt_of_lt (by omega) (ih (by omega))

/-- The sum of the weights of a frame's bits, the first bit's the greatest (R83). -/
def weightSum (bits : List Bool) : Nat :=
  ∑ i ∈ Finset.range bits.length,
    (if bits.getD i false then 1 else 0) * 2 ^ (bits.length - 1 - i)

/-- One bit more doubles the weights of the bits before it. -/
theorem weightSum_concat (bits : List Bool) (b : Bool) :
    weightSum (bits ++ [b]) = 2 * weightSum bits + b.toNat := by
  rw [weightSum, weightSum, List.length_append, List.length_singleton, Finset.sum_range_succ,
    Finset.mul_sum]
  congr 1
  · apply Finset.sum_congr rfl
    intro i hi
    have hi := Finset.mem_range.mp hi
    rw [List.getD_append _ _ _ _ hi, show bits.length + 1 - 1 - i = bits.length - 1 - i + 1 by omega,
      pow_succ]
    ring
  · cases b <;> simp

theorem toNat_frameValue {bits : List Bool} (hlen : bits.length ≤ 64) :
    (frameValue bits).toNat = weightSum bits := by
  induction bits using List.reverseRecOn with
  | nil => rfl
  | append_singleton bits b ih =>
    have hlen' : bits.length < 64 := by
      rw [List.length_append, List.length_singleton] at hlen
      omega
    rw [weightSum_concat, ← ih hlen'.le, frameValue_concat, appendBit,
      BitVec.toNat_shiftConcat_eq_of_lt hlen' (toNat_frameValue_lt hlen'.le), Nat.mul_comm]

/-- Bit j in the order received is bit n - 1 - j of the value. -/
theorem getD_bitsMsb {w : Nat} (v : BitVec w) {n j : Nat} (hj : j < n) :
    (bitsMsb n v).getD j false = v.getLsbD (n - 1 - j) := by
  induction n generalizing j with
  | zero => omega
  | succ n ih =>
    cases j with
    | zero => rfl
    | succ j =>
      rw [bitsMsb, List.getD_cons_succ, ih (by omega)]
      congr 1
      omega

/-- The frame register after the low n bits of a value holds these bits, the last 64 if there are
more. -/
theorem frameValue_bitsMsb {w : Nat} (n : Nat) (v : BitVec w) :
    frameValue (bitsMsb n v) = (v.setWidth n).setWidth 64 := by
  apply BitVec.eq_of_getLsbD_eq
  intro k hk
  rw [frameValue, getLsbD_foldl_appendBit _ _ k hk, length_bitsMsb, BitVec.getLsbD_setWidth,
    BitVec.getLsbD_setWidth]
  by_cases hn : k < n
  · rw [if_pos hn, getD_bitsMsb v (by omega), show n - 1 - (n - 1 - k) = k by omega]
    simp [hk, hn]
  · simp [hn]

/-- The frame of the low n bits of a value decodes by its length n to the row that holds these bits. -/
theorem decode_frame_bitsMsb {w n : Nat} (v : BitVec w) (h0 : 0 < n) (h255 : n ≤ 255) :
    decode (.frame (bitsMsb n v)) =
      .ok (decodeFrame (BitVec.ofNat 8 n) ((v.setWidth n).setWidth 64)) := by
  have hcount : frameCount (bitsMsb n v) = BitVec.ofNat 8 n := by
    apply BitVec.eq_of_toNat_eq
    rw [toNat_frameCount, length_bitsMsb, BitVec.toNat_ofNat]
    omega
  rw [← hcount, ← frameValue_bitsMsb]
  cases n with
  | zero => omega
  | succ n => rfl

/-- A frame of a supported length is decoded again by the row of that length. -/
theorem decode_frame_supported {w : Nat} {row : BitVec w → Instr} (f : BitVec w) (h0 : 0 < w)
    (hw : w ≤ 64) (hrow : ∀ v, decodeFrame (BitVec.ofNat 8 w) v = row (v.setWidth w)) :
    decode (.frame (bitsMsb w f)) = .ok (row f) := by
  rw [decode_frame_bitsMsb f h0 (by omega), hrow, BitVec.setWidth_eq,
    BitVec.setWidth_setWidth_of_le f hw, BitVec.setWidth_eq]

/-- A register that fits its count holds its low bits alone (R83). -/
theorem setWidth_of_frameFits {len : FrameCount} {v : FrameReg} (h : frameFits len v = true) :
    (v.setWidth len.toNat).setWidth 64 = v := by
  apply BitVec.eq_of_getLsbD_eq
  intro k hk
  rw [BitVec.getLsbD_setWidth, BitVec.getLsbD_setWidth]
  by_cases hlt : k < len.toNat
  · simp [hk, hlt]
  · have hshift : v >>> len.toNat = 0#64 := by
      have hlen : ¬64 ≤ len.toNat := by omega
      simpa [frameFits, hlen] using h
    have hbit := congrArg (·.getLsbD (k - len.toNat)) hshift
    simp only [BitVec.getLsbD_ushiftRight, BitVec.getLsbD_zero] at hbit
    rw [show len.toNat + (k - len.toNat) = k by omega] at hbit
    simp [hbit]

/-- An unsupported frame is none of the supported lengths, has a bit, and fits its count (R95). -/
theorem frameUnsupported_wf_iff (len : FrameCount) (v : FrameReg) :
    (Instr.frameUnsupported len v).wf = true ↔
      len ≠ 0#8 ∧ ¬Machine.SupportedLength len ∧ frameFits len v = true := by
  simp [Instr.wf, Config.supportedLengths, Machine.SupportedLength, and_assoc]

theorem decodeFrame_unsupported {len : FrameCount} (h : ¬Machine.SupportedLength len) (v : FrameReg) :
    decodeFrame len v = .frameUnsupported len v := by
  obtain ⟨h26, h32, h34, h64⟩ : len ≠ 26#8 ∧ len ≠ 32#8 ∧ len ≠ 34#8 ∧ len ≠ 64#8 := by
    simpa [Machine.SupportedLength] using h
  rw [decodeFrame, if_neg h26, if_neg h32, if_neg h34, if_neg h64]

/-- A well-formed unsupported frame is decoded again from its bits. -/
theorem decode_frame_unsupported {len : FrameCount} {v : FrameReg}
    (h : (Instr.frameUnsupported len v).wf = true) :
    decode (.frame (bitsMsb len.toNat v)) = .ok (.frameUnsupported len v) := by
  obtain ⟨hne, hlen, hfits⟩ := (frameUnsupported_wf_iff len v).mp h
  have hpos : 0 < len.toNat := by bv_omega
  rw [decode_frame_bitsMsb v hpos (Nat.le_of_lt_succ len.isLt), BitVec.ofNat_toNat,
    BitVec.setWidth_eq, setWidth_of_frameFits hfits, decodeFrame_unsupported hlen]

/-! ### The round trip (R80) -/

/-- A well-formed instruction but WR_CMD is decoded again from its encoding. -/
theorem decode_encode {i : Instr} {c : Code} (hwf : i.wf = true) (hcmd : ∀ v, i ≠ .wrCmd v)
    (h : encode i = some c) : decode c = .ok i := by
  cases i with
  | decW26 f | decW32 f | decW34 f =>
    obtain rfl := Option.some.inj h
    exact decode_frame_supported f (by decide) (by decide) fun _ => rfl
  | decW64 f =>
    obtain rfl := Option.some.inj h
    exact decode_frame_supported f (by decide) (by decide) fun v => by rw [BitVec.setWidth_eq]; rfl
  | frameUnsupported len v =>
    obtain rfl := Option.some.inj h
    exact decode_frame_unsupported hwf
  | nop | lock | unlock => exact decode_of_encodeCommand h rfl
  | cmdRsvd v =>
    obtain ⟨h0, h1, h2⟩ := (cmdRsvd_wf_iff v).mp hwf
    exact decode_of_encodeCommand h (decodeCmd_reserved h0 h1 h2)
  | wrCmd v => exact absurd rfl (hcmd v)
  | wdTick | close | wdStop | wdStart | sensTick0 | sensStop0 | sensStart0 | sensTick1 | sensStop1
  | sensStart1 | sensTick2 | sensStop2 | sensStart2 | actCycle | relockFire => exact nomatch h
  | rdId | rdCtrl | rdStatus | rdIrqEn | rdCmd | rdSilence | rdPulse | rdRelock | rdDebounce0
  | rdDebounce1 | rdDebounce2 | rdRsvd11 | rdCardLo | rdCardHi | rdCardInfo | rdCardNum | rdErrLo
  | rdErrHi | rdErrLen | rdRelockRem | rdRsvd20 | rdRsvd21 | rdRsvd22 | rdRsvd23 | rdRsvd24
  | rdRsvd25 | rdRsvd26 | rdRsvd27 | rdRsvd28 | rdRsvd29 | rdRsvd30 | rdRsvd31 | rdRsvd32
  | rdRsvd33 | rdRsvd34 | rdRsvd35 | rdRsvd36 | rdRsvd37 | rdRsvd38 | rdRsvd39 | rdRsvd40
  | rdRsvd41 | rdRsvd42 | rdRsvd43 | rdRsvd44 | rdRsvd45 | rdRsvd46 | rdRsvd47 | rdRsvd48
  | rdRsvd49 | rdRsvd50 | rdRsvd51 | rdRsvd52 | rdRsvd53 | rdRsvd54 | rdRsvd55 | rdRsvd56
  | rdRsvd57 | rdRsvd58 | rdRsvd59 | rdRsvd60 | rdRsvd61 | rdRsvd62 | rdRsvd63 =>
    exact decode_of_encodeRead h rfl
  | _ => exact decode_of_encodeWrite h (by decide) rfl

end Sys2Proof

namespace Sys2Proof.Proofs

open Sys2Proof.Machine

/-- Settles O51: each kind of row is decoded again from its frame, its read or its write, and a write of
CMD decodes to the command of its DATA. -/
theorem encodeDecodeRoundTrip : Obligations.EncodeDecodeRoundTrip :=
  ⟨fun _ _ => decode_encode, fun v => ⟨_, rfl, decode_of_encodeCommand (v := v) rfl rfl⟩⟩

/-- Settles O25: each bit received doubles the weights of those before it. -/
theorem rawValueAssembly : Obligations.RawValueAssembly := by
  refine ⟨fun _ => toNat_frameValue, fun _ n hlen => getLsbD_frameValue hlen n, ?register, rfl⟩
  case register =>
    intro bits d hd
    rw [foldl_append_shift, hd]
    rfl

/-- Settles O52: DIR and IDX name a row of the table, and the row encodes to the same fields. -/
theorem everyWordDecodes : Obligations.EveryWordDecodes := by
  refine ⟨fun w => ?rows, fun w hd hi => decodeTxn_of_command hd hi⟩
  case rows =>
    obtain ⟨hwf, henc⟩ := decodeTxn_row w
    refine ⟨hwf, ?encoding, fun hd => ?sameRead⟩
    case encoding =>
      rw [henc]
      cases hd : txnDir w with
      | false => rfl
      | true =>
        rw [if_pos rfl, if_pos rfl, encodeWrite, writeWord_fields hd]
    case sameRead => rw [decodeTxn_readWord, decodeTxn_of_read hd]

/-- Settles O5: the decoder evaluates on the fixed words and frames. -/
theorem decodesWrittenWords : Obligations.DecodesWrittenWords :=
  ⟨rfl, rfl, rfl, rfl, rfl, rfl, rfl, rfl, rfl, rfl⟩

/-- Settles O18: CMD_RSVD raises CMD_REJ by its definition, with no test of BUSY (R185). -/
theorem reservedCommandWords : Obligations.ReservedCommandWords :=
  ⟨fun w h0 h1 h2 => (decodeTxn_writeCommand w).trans (decodeCmd_reserved h0 h1 h2),
    fun _ _ => rfl⟩

/-- Settles O53: the fifteen internal operations have no encoding, and every other row has one. -/
theorem encodedOrInternal : Obligations.EncodedOrInternal := by
  intro i
  cases i with
  | wdTick | close | wdStop | wdStart | sensTick0 | sensStop0 | sensStart0 | sensTick1 | sensStop1
  | sensStart1 | sensTick2 | sensStop2 | sensStart2 | actCycle | relockFire =>
    exact ⟨fun _ => rfl, fun _ => rfl⟩
  | _ => exact ⟨nofun, nofun⟩

end Sys2Proof.Proofs

/-! Proofs of the statements on the sensor channels (spec/40_sensor_monitor.md): what a tick, a stop and a
start do to a channel, what a channel and the actuator depend on, and the debounce time. -/

namespace Sys2Proof.Machine

/-! ### A channel's tick (R114, R115) -/

theorem toNat_satSucc (x : Word) : (satSucc x).toNat = min (x.toNat + 1) (2 ^ 32 - 1) := by
  unfold satSucc
  split
  case isTrue h => rw [h]; decide
  case isFalse h => bv_omega

namespace Channel

@[simp] theorem age_primed (c : Channel) (level : Bool) : (c.age level).primed = c.primed := by
  unfold age; repeat' split
  all_goals rfl

@[simp] theorem age_state (c : Channel) (level : Bool) : (c.age level).state = c.state := by
  unfold age; repeat' split
  all_goals rfl

@[simp] theorem age_prev (c : Channel) (level : Bool) : (c.age level).prev = level := by
  unfold age
  cases hedge : level != c.prev with
  | true => rfl
  | false =>
    have hprev : c.prev = level := (bne_eq_false_iff_eq.mp hedge).symm
    cases c.pend <;> exact hprev

theorem age_pend (c : Channel) (level : Bool) :
    (c.age level).pend = (level != c.prev || c.pend) := by
  unfold age
  cases level != c.prev with
  | true => rfl
  | false =>
    cases hpend : c.pend with
    | true => rfl
    | false => exact hpend

theorem toNat_age_cnt (c : Channel) (level : Bool) :
    (c.age level).cnt.toNat =
      if level != c.prev then 0
      else if c.pend then min (c.cnt.toNat + 1) (2 ^ 32 - 1)
      else c.cnt.toNat := by
  unfold age
  cases level != c.prev with
  | true => rfl
  | false =>
    cases c.pend with
    | true => exact toNat_satSucc c.cnt
    | false => rfl

theorem due_iff (c : Channel) (debounce : Word) :
    c.due debounce = true ↔ c.pend = true ∧ debounce.toNat ≤ c.cnt.toNat := by
  rw [due, Bool.and_eq_true, decide_eq_true_iff, BitVec.le_def]

/-- A running, primed tick ages the channel, and an evaluation that is due ends the wait and takes the
level's logical state. -/
theorem sample_eq (c : Channel) (level pol : Bool) (debounce : Word) :
    c.sample level pol debounce =
      { primed := c.primed, prev := level
        pend := (c.age level).pend && !(c.age level).due debounce
        cnt := (c.age level).cnt
        state := if (c.age level).due debounce then xor level pol else c.state } := by
  have hprimed := c.age_primed level
  have hprev := c.age_prev level
  have hstate := c.age_state level
  unfold sample
  generalize c.age level = a at hprimed hprev hstate ⊢
  rw [← hprimed, ← hstate]
  subst hprev
  cases hdue : a.due debounce <;> simp [hdue]

end Channel

/-- `snRuns` is the condition of R112. -/
theorem State.snRuns_iff (s : State) (k : Chan) : s.snRuns k = true ↔ s.ChannelRuns k := by
  simp only [State.snRuns, sensEnBit, Bool.and_eq_true, Bool.not_eq_true']
  tauto

/-! ### The rows of a channel (R117, R118, R121) -/

theorem exec_tickOp (s : State) (k : Chan) : exec (tickOp k) s = .next (s.sensTick k) := by
  cases k <;> rfl

theorem exec_stopOp (s : State) (k : Chan) :
    exec (stopOp k) s = .next (s.putNxt (s.nxt.sensStop k)) := by
  cases k <;> rfl

theorem exec_startOp (s : State) (k : Chan) : exec (startOp k) s = .next (s.sensStart k) := by
  cases k <;> rfl

theorem Block.putSn_self (b : Block) (k : Chan) : b.putSn k (b.sn k) = b := by
  cases k <;> rfl

theorem Block.sensStop_sensStop (b : Block) (k : Chan) :
    (b.sensStop k).sensStop k = b.sensStop k := by
  cases k <;> rfl

theorem State.sensTick_of_not_runs {s : State} {k : Chan} (h : s.snRuns k = false) :
    s.sensTick k = s := by
  simp [State.sensTick_spec, State.snBlock, State.snEvents, State.snPublishes, h, Block.putSn_self,
    State.form]

theorem State.sensTick_of_unprimed {s : State} {k : Chan} (h : s.snRuns k = true)
    (hp : (s.cur.sn k).primed = false) :
    s.sensTick k = s.putNxt (s.nxt.putSn k ((s.cur.sn k).prime (s.inputs.sens k))) := by
  simp [State.sensTick_spec, State.snBlock, State.snEvents, State.snPublishes, State.snTicked, h, hp,
    State.form, State.putNxt]

theorem State.sensTick_of_primed {s : State} {k : Chan} (h : s.snRuns k = true)
    (hp : (s.cur.sn k).primed = true) :
    s.sensTick k =
      s.form
        (s.nxt.putSn k
          ((s.cur.sn k).sample (s.inputs.sens k) (s.cur.sensPol k) (s.cur.debounce k)))
        (if (s.cur.sn k).publishes (s.inputs.sens k) (s.cur.sensPol k) (s.cur.debounce k) then
          s.raised ||| (Event.sensChg k).bit else s.raised) := by
  rw [State.sensTick_spec, State.snBlock, State.snEvents, State.snPublishes, State.snTicked, h, hp]
  cases (s.cur.sn k).publishes (s.inputs.sens k) (s.cur.sensPol k) (s.cur.debounce k) <;> simp

/-! ### What a channel depends on (R122) -/

/-- Two cycles give channel k the same work: its line, its CTRL bits, its delay, its state and the write
of its enable bit are the same, and both are ticks or neither is. -/
structure State.SameChannelWork (s u : State) (k : Chan) : Prop where
  tick : s.inputs.tick = u.inputs.tick
  sens : s.inputs.sens k = u.inputs.sens k
  stop : s.clearsCtrl (2 + k.num) = u.clearsCtrl (2 + k.num)
  en : s.cur.sensEn k = u.cur.sensEn k
  pol : s.cur.sensPol k = u.cur.sensPol k
  debounce : s.cur.debounce k = u.cur.debounce k
  sn : s.cur.sn k = u.cur.sn k

namespace State.SameChannelWork

variable {s u : State} {k : Chan}

theorem snRuns (h : s.SameChannelWork u k) : s.snRuns k = u.snRuns k := by
  simp only [State.snRuns, sensEnBit, h.tick, h.stop, h.en]

theorem snNext (h : s.SameChannelWork u k) : s.snNext k = u.snNext k := by
  have hstop : s.clearsCtrl (sensEnBit k) = u.clearsCtrl (sensEnBit k) := h.stop
  simp only [State.snNext, State.snTicked, h.snRuns, hstop, h.sens, h.pol, h.debounce, h.sn]

theorem causes_iff (h : s.SameChannelWork u k) :
    s.Causes (.sensChg k) ↔ u.Causes (.sensChg k) := by
  simp only [State.Causes, State.Evaluates, State.ChannelRuns, h.tick, h.stop, h.en, h.sens, h.pol,
    h.debounce, h.sn]

end State.SameChannelWork

/-! ### What the actuator depends on (R122, R201) -/

/-- Two blocks agree on what decides the lock: the actuator, its durations and the mode. -/
structure Block.SameLock (b c : Block) : Prop where
  act : b.act = c.act
  pulse : b.pulse = c.pulse
  relock : b.relock = c.relock
  mode : b.autoRelock = c.autoRelock

/-- Two cycles have the same inputs, but for the data lines and the sensor lines. -/
abbrev SameButLines (p q : Inputs) : Prop :=
  q = { p with d0 := q.d0, d1 := q.d1, sens0 := q.sens0, sens1 := q.sens1, sens2 := q.sens2 }

/-- Two cycles give the actuator the same work. -/
structure State.SameLockWork (s u : State) : Prop where
  cur : s.cur.SameLock u.cur
  pins : SameButLines s.inputs u.inputs

namespace State.SameLockWork

variable {s u : State}

theorem rst (h : s.SameLockWork u) : s.inputs.rst = u.inputs.rst := by rw [h.pins]
theorem tick (h : s.SameLockWork u) : s.inputs.tick = u.inputs.tick := by rw [h.pins]
theorem fault (h : s.SameLockWork u) : s.inputs.fault = u.inputs.fault := by rw [h.pins]

theorem written (h : s.SameLockWork u) (i : RegIndex) : s.written i = u.written i := by
  have hbus : s.inputs.bus = u.inputs.bus := by rw [h.pins]
  rw [State.written, State.written, busTxn, busTxn, hbus]

theorem clearsCtrl (h : s.SameLockWork u) (n : Nat) : s.clearsCtrl n = u.clearsCtrl n := by
  rw [State.clearsCtrl, State.clearsCtrl, h.written]

theorem command (h : s.SameLockWork u) : s.command = u.command := by
  rw [State.command, State.command, h.written]

theorem actNext (h : s.SameLockWork u) : s.actNext = u.actNext := by
  obtain ⟨hact, hpulse, hrelock, hmode⟩ := h.cur
  have haccepts : s.accepts = u.accepts := by
    rw [State.accepts, State.accepts, h.command, hact]
  have hfault : s.pulseFault = u.pulseFault := by
    rw [State.pulseFault, State.pulseFault, hact, h.fault]
  have hlocked : s.lockedAfter = u.lockedAfter := by
    rw [State.lockedAfter, State.lockedAfter, hfault, hact]
  have htick : ∀ a, tickAct s a = tickAct u a := fun a => by
    rw [tickAct, tickAct, hact, hpulse, hrelock, hmode, hfault, hlocked]
  have hcommand : ∀ a c, commandAct s.cur a c = commandAct u.cur a c := fun a c => by
    cases c with
    | none => rfl
    | some op => cases op <;> simp only [commandAct, hact, hpulse]
  simp only [State.actNext, State.actFormed, hcommand, htick, haccepts, hact, h.command, h.tick,
    h.clearsCtrl]

theorem nextBlock (h : s.SameLockWork u) : s.nextBlock.SameLock u.nextBlock where
  act := h.actNext
  pulse := by simp only [State.nextBlock, h.written, h.cur.pulse]
  relock := by simp only [State.nextBlock, h.written, h.cur.relock]
  mode := by
    change s.ctrlNext.getLsbD 1 = u.ctrlNext.getLsbD 1
    rw [State.ctrlNext, State.ctrlNext, h.written]
    cases u.written 1#6 with
    | none => exact h.cur.mode
    | some v => rfl

theorem cur_of_step (h : s.SameLockWork u) {t v : State} (hst : step s = .next t)
    (huv : step u = .next v) : t.cur.SameLock v.cur := by
  rcases step_next_cases hst with ⟨hr, rfl⟩ | ⟨hr, rfl⟩
  · rw [h.rst] at hr
    rw [step_reset hr] at huv
    cases huv
    exact ⟨rfl, rfl, rfl, rfl⟩
  · rw [h.rst] at hr
    obtain rfl := step_next_of_not_rst hr huv
    exact h.nextBlock

end State.SameLockWork

/-! ### Runs of cycles -/

theorem step_next_stim {s t : State} (h : step s = .next t) : t.stim = s.stim.tail := by
  rcases step_next_cases h with ⟨-, rfl⟩ | ⟨-, rfl⟩ <;> rfl

theorem runCycles_succ_iff {n : Nat} {s t : State} :
    runCycles (n + 1) s = .next t ↔ ∃ u, step s = .next u ∧ runCycles n u = .next t := by
  rw [runCycles]
  cases step s <;> simp

theorem runCycles_one {s t : State} (h : step s = .next t) : runCycles 1 s = .next t :=
  runCycles_succ_iff.mpr ⟨t, h, rfl⟩

theorem runCycles_trans {m n : Nat} {s t u : State} (hst : runCycles m s = .next t)
    (htu : runCycles n t = .next u) : runCycles (m + n) s = .next u := by
  induction m generalizing s with
  | zero =>
    cases hst
    rwa [Nat.zero_add]
  | succ m ih =>
    obtain ⟨r, hsr, hrt⟩ := runCycles_succ_iff.mp hst
    rw [Nat.succ_add_eq_add_succ, Nat.add_succ]
    exact runCycles_succ_iff.mpr ⟨r, hsr, ih hrt⟩

/-- The cycle to run is one of the expected ones as long as the run has not used them up. -/
theorem State.Expects.inputs_drop {s t : State} {n j : Nat} {c : Inputs → Prop} (h : s.Expects n c)
    (hj : j < n) (ht : t.stim = s.stim.drop j) : c t.inputs := by
  obtain ⟨hlen, hall⟩ := h
  have hlt : j < s.stim.length := by omega
  rw [List.drop_eq_getElem_cons hlt] at ht
  rw [State.inputs_of_stim ht]
  exact hall _ (List.mem_take_iff_getElem.mpr ⟨j, by omega, rfl⟩)

theorem State.Expects.mono {s : State} {m n : Nat} {c : Inputs → Prop} (h : s.Expects n c)
    (hmn : m ≤ n) : s.Expects m c :=
  ⟨hmn.trans h.1, fun p hp => h.2 p (List.take_subset_take_left _ hmn hp)⟩

/-- A property that one expected cycle after another carries on holds along the run of them. -/
theorem runCycles_of_expects {c : Inputs → Prop} {P : Nat → State → Prop} {n : Nat} {s : State}
    (hexp : s.Expects n c) (hinit : P 0 s)
    (hstep : ∀ j t, j < n → c t.inputs → P j t → ∃ u, step t = .next u ∧ P (j + 1) u) :
    ∀ j ≤ n, ∃ t, runCycles j s = .next t ∧ t.stim = s.stim.drop j ∧ P j t := by
  intro j
  induction j with
  | zero => exact fun _ => ⟨s, rfl, rfl, hinit⟩
  | succ j ih =>
    intro hj
    obtain ⟨t, hrun, hstim, hP⟩ := ih (by omega)
    obtain ⟨u, htu, hPu⟩ := hstep j t hj (hexp.inputs_drop hj hstim) hP
    refine ⟨u, runCycles_trans hrun (runCycles_one htu), ?_, hPu⟩
    rw [step_next_stim htu, hstim, List.tail_drop]

/-- Runs whose cycles differ in the data lines and the sensor lines alone leave the lock the same. -/
theorem runCycles_sameLock {n : Nat} {s t u v : State} (hs : n ≤ s.stim.length)
    (hu : n ≤ u.stim.length)
    (hpins : ∀ i, i < n → ∀ p q, s.stim[i]? = some p → u.stim[i]? = some q → SameButLines p q)
    (hlock : s.cur.SameLock u.cur) (hst : runCycles n s = .next t) (huv : runCycles n u = .next v) :
    t.cur.SameLock v.cur := by
  induction n generalizing s u with
  | zero =>
    cases hst
    cases huv
    exact hlock
  | succ n ih =>
    obtain ⟨s', hss', hst'⟩ := runCycles_succ_iff.mp hst
    obtain ⟨u', huu', huv'⟩ := runCycles_succ_iff.mp huv
    obtain ⟨p, ps, hp⟩ := List.exists_cons_of_length_pos (Nat.lt_of_lt_of_le n.succ_pos hs)
    obtain ⟨q, qs, hq⟩ := List.exists_cons_of_length_pos (Nat.lt_of_lt_of_le n.succ_pos hu)
    have hs' : s'.stim = ps := by rw [step_next_stim hss', hp]; rfl
    have hu' : u'.stim = qs := by rw [step_next_stim huu', hq]; rfl
    rw [hp] at hs hpins
    rw [hq] at hu hpins
    have hwork : s.SameLockWork u := by
      refine ⟨hlock, ?_⟩
      rw [State.inputs_of_stim hp, State.inputs_of_stim hq]
      exact hpins 0 n.succ_pos p q rfl rfl
    refine ih ?_ ?_ ?_ (hwork.cur_of_step hss' huu') hst' huv'
    · rw [hs']
      exact Nat.le_of_succ_le_succ hs
    · rw [hu']
      exact Nat.le_of_succ_le_succ hu
    · rw [hs', hu']
      exact fun i hi p q hp hq => hpins (i + 1) (Nat.succ_lt_succ hi) p q hp hq

/-! ### The debounce time (R115, R116, R304) -/

theorem State.eventsNext_sensChg (s : State) (k : Chan) :
    s.eventsNext.getLsbD (Event.sensChg k).code = s.snPublishes k := by
  have hsn : ∀ j, (s.snEvents j).getLsbD (Event.sensChg k).code = (s.snPublishes j && decide (k = j)) := by
    intro j
    have hcode : (Event.sensChg k).code = (Event.sensChg j).code ↔ k = j := by
      cases j <;> cases k <;> decide
    rw [State.snEvents]
    cases s.snPublishes j <;> simp [Event.getLsbD_bit, hcode]
  have hwd : s.wdEvents.getLsbD (Event.sensChg k).code = false := by
    have hne : (Event.sensChg k).code ≠ (closeEvent s.cur s.cur.wd.count).code := by
      unfold closeEvent
      repeat' split
      all_goals cases k <;> decide
    rw [s.wdEvents_getLsbD, decide_eq_false hne, Bool.and_false]
  have hact : s.actEvents.getLsbD (Event.sensChg k).code = false := by
    rw [State.actEvents, BitVec.getLsbD_or, commandEvents_getLsbD _ _ (by cases k <;> decide)]
    split
    · exact BitVec.getLsbD_zero
    · exact tickEvents_getLsbD s (by cases k <;> decide) (by cases k <;> decide)
  simp only [State.eventsNext, BitVec.getLsbD_or, hwd, hsn, hact]
  cases k <;> simp

/-- A tick with no reset and no transaction, at a level of channel k's line. -/
abbrev SensCycle (k : Chan) (level : Bool) (p : Inputs) : Prop :=
  p.rst = false ∧ p.tick = true ∧ p.bus = [] ∧ p.sens k = level

/-- All that a running, primed channel shows of a tick without a transaction. -/
theorem step_sensCycle {s : State} {k : Chan} {level : Bool} (hin : SensCycle k level s.inputs)
    (hen : s.cur.sensEn k = true) (hp : (s.cur.sn k).primed = true) :
    ∃ t, step s = .next t ∧
      t.cur.sn k = (s.cur.sn k).sample level (s.cur.sensPol k) (s.cur.debounce k) ∧
      t.cur.flag (.sensChg k) =
        (s.cur.flag (.sensChg k) ||
          (s.cur.sn k).publishes level (s.cur.sensPol k) (s.cur.debounce k)) ∧
      t.cur.sensEn k = true ∧ t.cur.sensPol k = s.cur.sensPol k ∧
      t.cur.debounce k = s.cur.debounce k := by
  obtain ⟨hr, ht, hbus, hlevel⟩ := hin
  have hw : ∀ i, s.written i = none :=
    s.written_none fun w hw => by simp [busTxn_nil hbus] at hw
  have hclr : ∀ n, s.clearsCtrl n = false := fun n => by simp [State.clearsCtrl, hw]
  have hruns : s.snRuns k = true := s.snRuns_iff k |>.mpr ⟨ht, hen, hclr _⟩
  have hctrl : s.nextBlock.ctrl = s.cur.ctrl := by simp [State.nextBlock, State.ctrlNext, hw]
  refine ⟨s.nextState, step_normal (i? := none) hr (by simp [State.fetchBus, hbus]), ?sn, ?flag, ?en,
    ?pol, ?debounce⟩
  case sn =>
    change s.nextBlock.sn k = _
    simp [s.nextBlock_sn, State.snNext, State.snTicked, hclr, hruns, hp, hlevel]
  case flag =>
    change s.nextBlock.flag _ = _
    simp [s.nextBlock_flag, s.eventsNext_sensChg, State.snPublishes, State.cleared, hw, hruns, hp,
      hlevel]
  case en => exact (congrArg (·.getLsbD (sensEnBit k)) hctrl).trans hen
  case pol => exact congrArg (·.getLsbD (sensPolBit k)) hctrl
  case debounce => cases k <;> simp [State.nextState, State.nextBlock, Block.debounce, hw]

/-- Channel k of `t` still shows what it did in the block `b`, and its next tick at the level brings its
pending evaluation to the count `j`. -/
structure State.Waits (t : State) (b : Block) (k : Chan) (level : Bool) (j : Nat) : Prop where
  en : t.cur.sensEn k = true
  pol : t.cur.sensPol k = b.sensPol k
  debounce : t.cur.debounce k = b.debounce k
  primed : (t.cur.sn k).primed = true
  state : (t.cur.sn k).state = (b.sn k).state
  flag : t.cur.flag (.sensChg k) = b.flag (.sensChg k)
  pend : ((t.cur.sn k).age level).pend = true
  cnt : ((t.cur.sn k).age level).cnt.toNat = j

namespace State.Waits

variable {t : State} {b : Block} {k : Chan} {level : Bool} {j : Nat}

/-- An edge is the start of a wait (R114). -/
theorem of_edge {s : State} (hen : s.cur.sensEn k = true) (hp : (s.cur.sn k).primed = true)
    (hedge : (s.cur.sn k).prev = !level) : s.Waits s.cur k level 0 where
  en := hen
  pol := rfl
  debounce := rfl
  primed := hp
  state := rfl
  flag := rfl
  pend := by rw [Channel.age_pend, hedge]; cases level <;> rfl
  cnt := by rw [Channel.toNat_age_cnt, hedge]; cases level <;> rfl

theorem due_iff (h : t.Waits b k level j) :
    ((t.cur.sn k).age level).due (t.cur.debounce k) = true ↔ (b.debounce k).toNat ≤ j := by
  rw [Channel.due_iff, h.cnt, h.debounce, and_iff_right h.pend]

/-- A tick before the debounce time is over leaves the evaluation pending and the wait one tick older. -/
theorem step_early (h : t.Waits b k level j) (hin : SensCycle k level t.inputs)
    (hj : j < (b.debounce k).toNat) :
    ∃ u, step t = .next u ∧ u.Waits b k level (j + 1) ∧ (u.cur.sn k).pend = true := by
  obtain ⟨u, hstep, hsn, hflag, hen, hpol, hdeb⟩ := step_sensCycle hin h.en h.primed
  have hdue : ((t.cur.sn k).age level).due (t.cur.debounce k) = false := by
    rw [← Bool.not_eq_true, h.due_iff]
    omega
  have hlt : (b.debounce k).toNat < 2 ^ 32 := (b.debounce k).isLt
  rw [Channel.sample_eq, hdue, h.pend] at hsn
  rw [Channel.publishes, hdue, Bool.false_and, Bool.or_false] at hflag
  have hpend : (u.cur.sn k).pend = true := by rw [hsn]; rfl
  refine ⟨u, hstep, ⟨hen, hpol.trans h.pol, hdeb.trans h.debounce, ?primed, ?state,
    hflag.trans h.flag, ?pend, ?cnt⟩, hpend⟩
  case primed => rw [hsn]; exact h.primed
  case state => rw [hsn]; exact h.state
  case pend => rw [Channel.age_pend, hpend, Bool.or_true]
  case cnt =>
    have hprev : (u.cur.sn k).prev = level := by rw [hsn]
    have hcnt : (u.cur.sn k).cnt.toNat = j := by rw [hsn]; exact h.cnt
    rw [Channel.toNat_age_cnt, hprev, hpend, hcnt, bne_self_eq_false, if_neg Bool.false_ne_true,
      if_pos rfl]
    omega

/-- The tick that ends the debounce time evaluates (R115). -/
theorem step_last (h : t.Waits b k level (b.debounce k).toNat)
    (hin : SensCycle k level t.inputs) :
    ∃ u, step t = .next u ∧ (u.cur.sn k).pend = false ∧
      (u.cur.sn k).state = xor level (b.sensPol k) ∧
      (xor level (b.sensPol k) ≠ (b.sn k).state → u.cur.flag (.sensChg k) = true) := by
  obtain ⟨u, hstep, hsn, hflag, -⟩ := step_sensCycle hin h.en h.primed
  have hdue := h.due_iff.mpr le_rfl
  rw [Channel.sample_eq, hdue, h.pend] at hsn
  refine ⟨u, hstep, by rw [hsn]; rfl, by rw [hsn, ← h.pol]; rfl, fun hne => ?_⟩
  have hpub : (t.cur.sn k).publishes level (t.cur.sensPol k) (t.cur.debounce k) = true := by
    rw [Channel.publishes, hdue, h.pol, h.state, Bool.true_and, bne_iff_ne]
    exact hne
  rw [hflag, hpub, Bool.or_true]

end State.Waits

end Sys2Proof.Machine

namespace Sys2Proof.Proofs

open Sys2Proof.Machine

/-- Settles O32: the fields of the sampled channel are those of `Channel.sample_eq`, with the count in
numbers. -/
theorem sensTickEvaluates : Obligations.SensTickEvaluates := by
  intro s k hruns hp level edge pend cnt due logical
  have hpend : ((s.cur.sn k).age level).pend = pend := Channel.age_pend ..
  have hcnt : ((s.cur.sn k).age level).cnt.toNat = cnt := Channel.toNat_age_cnt ..
  have hword : ((s.cur.sn k).age level).cnt = BitVec.ofNat 32 cnt := by
    rw [← hcnt, BitVec.ofNat_toNat, BitVec.setWidth_eq]
  have hdue : ((s.cur.sn k).age level).due (s.cur.debounce k) = true ↔ due := by
    rw [Channel.due_iff, hpend, hcnt]
  have hwaits : (pend && !((s.cur.sn k).age level).due (s.cur.debounce k)) =
      decide (pend = true ∧ ¬due) := by
    rw [Bool.eq_iff_iff, decide_eq_true_iff, Bool.and_eq_true, Bool.not_eq_true', ← hdue,
      Bool.not_eq_true]
  have hraises : (s.cur.sn k).publishes level (s.cur.sensPol k) (s.cur.debounce k) = true ↔
      due ∧ logical ≠ (s.cur.sn k).state := by
    rw [Channel.publishes, Bool.and_eq_true, hdue, bne_iff_ne]
  rw [exec_tickOp, State.sensTick_of_primed ((s.snRuns_iff k).mpr hruns) hp, Channel.sample_eq,
    hpend, hword, hp, hwaits, if_congr hdue rfl rfl, if_congr hraises rfl rfl]
  rfl

/-- Settles O45: reset gives both cycles the same channel, and every other cycle reads of the channel
only what they share. -/
theorem channelIndependence : Obligations.ChannelIndependence := by
  intro s t u v k hst huv hrst htick hsens hstop hen hpol hdebounce hsn
  have hwork : s.SameChannelWork u k := ⟨htick, hsens, hstop, hen, hpol, hdebounce, hsn⟩
  refine ⟨?channel, hwork.causes_iff⟩
  case channel =>
    rcases step_next_cases hst with ⟨hr, rfl⟩ | ⟨hr, rfl⟩
    · rw [hrst] at hr
      rw [step_reset hr] at huv
      cases huv
      rfl
    · rw [hrst] at hr
      obtain rfl := step_next_of_not_rst hr huv
      change s.nextBlock.sn k = u.nextBlock.sn k
      rw [s.nextBlock_sn, u.nextBlock_sn, hwork.snNext]

/-- Settles O46: every cycle of the two runs gives the actuator the same work. -/
theorem cardsAndSensorsNeverMoveTheLock : Obligations.CardsAndSensorsNeverMoveTheLock := by
  intro n s t u v hns hnu hpins hact hpulse hrelock hmode hst huv
  have hlock : t.cur.SameLock v.cur :=
    runCycles_sameLock hns hnu hpins ⟨hact, hpulse, hrelock, hmode⟩ hst huv
  exact ⟨hlock.act, by rw [Block.lockOut, Block.lockOut, hlock.act],
    by rw [Block.unlockOut, Block.unlockOut, hlock.act]⟩

/-- Settles O57: the channel waits for D ticks from its edge on, and the next tick publishes. -/
theorem debouncedEdgePublishes : Obligations.DebouncedEdgePublishes := by
  intro s k level hen hp hedge hexp
  have hwaits : ∀ j ≤ (s.cur.debounce k).toNat, ∃ t, runCycles j s = .next t ∧
      t.stim = s.stim.drop j ∧ t.Waits s.cur k level j := by
    refine runCycles_of_expects (hexp.mono (by omega)) (.of_edge hen hp hedge) ?_
    intro j t hj hin hw
    obtain ⟨u, hstep, hwu, -⟩ := hw.step_early hin hj
    exact ⟨u, hstep, hwu⟩
  refine ⟨fun j hj => ?pending, ?published⟩
  case pending =>
    obtain ⟨t, hrun, hstim, hw⟩ := hwaits j hj.le
    obtain ⟨u, hstep, hwu, hpend⟩ := hw.step_early (hexp.inputs_drop (by omega) hstim) hj
    rw [Nat.add_comm]
    exact ⟨u, runCycles_trans hrun (runCycles_one hstep), hpend, hwu.state, hwu.flag⟩
  case published =>
    obtain ⟨t, hrun, hstim, hw⟩ := hwaits _ le_rfl
    obtain ⟨u, hstep, hpub⟩ := hw.step_last (hexp.inputs_drop (by omega) hstim)
    rw [Nat.add_comm]
    exact ⟨u, runCycles_trans hrun (runCycles_one hstep), hpub⟩

/-- Settles O31: a channel's tick by its running condition and `primed`. -/
theorem sensTickStopsAndPrimes : Obligations.SensTickStopsAndPrimes := by
  intro s k
  rw [exec_tickOp, ← s.snRuns_iff k]
  refine ⟨fun hruns => ?stopped, fun hruns hp => ?primes⟩
  case stopped => rw [State.sensTick_of_not_runs (Bool.eq_false_iff.mpr hruns)]
  case primes => rw [State.sensTick_of_unprimed hruns hp]; rfl

/-- Settles O33: stopping is a write of the channel that a second one repeats, and starting is decided by
the enable bit. -/
theorem sensStopAndStart : Obligations.SensStopAndStart := by
  intro s k
  rw [exec_stopOp, exec_startOp, State.sensStart]
  refine ⟨rfl, ?twice, fun hoff => ?starts, fun hon => ?running⟩
  case twice =>
    intro t ht
    cases ht
    rw [exec_stopOp, State.putNxt_nxt, Block.sensStop_sensStop]
    rfl
  case starts => rw [hoff]; rfl
  case running => rw [hon]; rfl

end Sys2Proof.Proofs

/-! Proofs of the statements on the Wiegand decoder (spec/41_wiegand_decoder.md): what each frame loads and
raises, what a tick, a close, a stop and a start do, and what the decoder makes of runs of cycles. -/

namespace Sys2Proof

/-! ### Frames as received (R82, R83, R143) -/

theorem toNat_countUp (c : FrameCount) : (countUp c).toNat = min (c.toNat + 1) 255 :=
  toNat_foldl_countUp [true] c

/-- The count of bits appended to a count, as a saturating sum (R143). -/
theorem foldl_countUp_eq (bits : List Bool) (c : FrameCount) :
    bits.foldl (fun c _ => countUp c) c = BitVec.ofNat 8 (min (c.toNat + bits.length) 255) := by
  apply BitVec.eq_of_toNat_eq
  rw [toNat_foldl_countUp, BitVec.toNat_ofNat, Nat.mod_eq_of_lt (by omega)]

/-- An appended bit in the operators of R143. -/
theorem appendBit_eq (v : FrameReg) (b : Bool) :
    appendBit v b = v <<< 1 ||| (if b then 1#64 else 0#64) := by
  apply BitVec.eq_of_getLsbD_eq
  intro n hn
  rw [getLsbD_appendBit, BitVec.getLsbD_or, BitVec.getLsbD_shiftLeft]
  by_cases h0 : n = 0
  · cases b <;> simp [h0]
  · have hlt : ¬n < 1 := by omega
    cases b <;> simp [h0, hn, hlt]

theorem frameCount_concat (bits : List Bool) (b : Bool) :
    frameCount (bits ++ [b]) = countUp (frameCount bits) := by
  simp [frameCount]

theorem frameFits_of_bits (bits : List Bool) :
    frameFits (frameCount bits) (frameValue bits) = true := by
  induction bits using List.reverseRecOn with
  | nil => rfl
  | append_singleton bits b ih =>
    rw [frameCount_concat, frameValue_concat]
    exact frameFits_append ih b

theorem frameCount_ne_zero {bits : List Bool} (h : bits ≠ []) : frameCount bits ≠ 0#8 := by
  have hpos := List.length_pos_iff.mpr h
  have hcount := toNat_frameCount bits
  bv_omega

theorem decode_frame_of_ne_nil {bits : List Bool} (h : bits ≠ []) :
    decode (.frame bits) = .ok (decodeFrame (frameCount bits) (frameValue bits)) := by
  cases bits with
  | nil => exact absurd rfl h
  | cons b bits => rfl

/-! ### Slices of a frame -/

theorem extractLsb'_zero_eq_setWidth {w : Nat} (v : BitVec w) (n : Nat) :
    v.extractLsb' 0 n = v.setWidth n :=
  BitVec.setWidth_ushiftRight_eq_extractLsb.symm

theorem extractLsb'_of_width_le {w start : Nat} (v : BitVec w) (n : Nat) (h : w ≤ start) :
    v.extractLsb' start n = 0#n := by
  apply BitVec.eq_of_getLsbD_eq
  intro i hi
  rw [BitVec.getLsbD_extractLsb', BitVec.getLsbD_of_ge v _ (by omega), Bool.and_false,
    BitVec.getLsbD_zero]

/-- A slice that reaches past the value is the value's part of it, extended with zeros. -/
theorem extractLsb'_eq_setWidth {w start m : Nat} (v : BitVec w) (n : Nat) (h : w ≤ start + m) :
    v.extractLsb' start n = (v.extractLsb' start m).setWidth n := by
  apply BitVec.eq_of_getLsbD_eq
  intro i hi
  rw [BitVec.getLsbD_extractLsb', BitVec.getLsbD_setWidth, BitVec.getLsbD_extractLsb']
  by_cases him : i < m
  · simp [him]
  · rw [BitVec.getLsbD_of_ge v _ (by omega)]
    simp

namespace Machine

/-! ### Parity and CARD_INFO (R31, R90, R92) -/

theorem xorReduce_eq_onesOf {w : Nat} (v : BitVec w) :
    xorReduce v = decide (onesOf (bitsMsb w v) % 2 = 1) := xorLow_eq v w

/-- The XOR of a frame's upper m bits is the parity of the ones among the first m received. -/
theorem xorReduce_first {w : Nat} (f : BitVec w) (n m : Nat) (h : n + m ≤ 64) :
    xorReduce ((f.setWidth 64).extractLsb' n m) =
      decide (onesOf ((bitsMsb (n + m) f).take m) % 2 = 1) := by
  have hbits : bitsMsb m (f.extractLsb' n m) = bitsMsb m (f >>> n) :=
    bitsMsb_congr fun i hi => by
      rw [BitVec.getLsbD_extractLsb', BitVec.getLsbD_ushiftRight, decide_eq_true hi, Bool.true_and]
  rw [BitVec.extractLsb'_setWidth_of_le h, xorReduce_eq_onesOf, take_bitsMsb, hbits]

/-- The XOR of a frame's lower n bits is the parity of the ones among the last n received. -/
theorem xorReduce_last {w : Nat} (f : BitVec w) (n m : Nat) (h : n ≤ 64) :
    xorReduce ((f.setWidth 64).extractLsb' 0 n) =
      decide (onesOf ((bitsMsb (n + m) f).drop m) % 2 = 1) := by
  have hbits : bitsMsb n (f.extractLsb' 0 n) = bitsMsb n f :=
    bitsMsb_congr fun i hi => by
      rw [BitVec.getLsbD_extractLsb', decide_eq_true hi, Bool.true_and, Nat.zero_add]
  rw [BitVec.extractLsb'_setWidth_of_le (by omega), xorReduce_eq_onesOf, drop_bitsMsb, hbits]

section
variable (fc : BitVec 8) (numValid fcValid odd even hasParity : Bool) (len : BitVec 8)

theorem packInfo_len :
    (packInfo fc numValid fcValid odd even hasParity len).extractLsb' 0 8 = len := by
  apply BitVec.eq_of_getLsbD_eq
  intro i hi
  rw [BitVec.getLsbD_extractLsb', Nat.zero_add, getLsbD_packInfo _ _ _ _ _ _ _ i (by omega),
    if_pos hi, decide_eq_true hi, Bool.true_and]

/-- The upper half of CARD_INFO, and the two reserved bits below it, hold FC alone. -/
theorem getLsbD_packInfo_upper {n : Nat} (hn : 14 ≤ n) (hn' : n < 32) :
    (packInfo fc numValid fcValid odd even hasParity len).getLsbD n =
      (decide (16 ≤ n) && fc.getLsbD (n - 16)) := by
  rw [getLsbD_packInfo _ _ _ _ _ _ _ n hn']
  repeat rw [if_neg (by omega)]
  by_cases h16 : n < 16
  · rw [if_pos h16, decide_eq_false (by omega), Bool.false_and]
  · rw [if_neg h16, decide_eq_true (by omega), Bool.true_and]

theorem packInfo_reserved_low :
    (packInfo fc numValid fcValid odd even hasParity len).extractLsb' 14 2 = 0#2 := by
  apply BitVec.eq_of_getLsbD_eq
  intro i hi
  rw [BitVec.getLsbD_extractLsb', getLsbD_packInfo_upper _ _ _ _ _ _ _ (by omega) (by omega),
    decide_eq_false (show ¬16 ≤ 14 + i by omega), Bool.false_and, Bool.and_false,
    BitVec.getLsbD_zero]

theorem packInfo_fc :
    (packInfo fc numValid fcValid odd even hasParity len).extractLsb' 16 8 = fc := by
  apply BitVec.eq_of_getLsbD_eq
  intro i hi
  rw [BitVec.getLsbD_extractLsb', getLsbD_packInfo_upper _ _ _ _ _ _ _ (by omega) (by omega),
    decide_eq_true hi, decide_eq_true (by omega), Bool.true_and, Bool.true_and, Nat.add_sub_cancel_left]

theorem packInfo_reserved_high :
    (packInfo fc numValid fcValid odd even hasParity len).extractLsb' 24 8 = 0#8 := by
  apply BitVec.eq_of_getLsbD_eq
  intro i hi
  rw [BitVec.getLsbD_extractLsb', getLsbD_packInfo_upper _ _ _ _ _ _ _ (by omega) (by omega),
    BitVec.getLsbD_of_ge fc _ (by omega), Bool.and_false, Bool.and_false, BitVec.getLsbD_zero]

/-- Without a facility code the bits above NUM_VALID are 0. -/
theorem packInfo_no_fc :
    (packInfo 0#8 numValid fcValid odd even hasParity len).extractLsb' 14 18 = 0#18 := by
  apply BitVec.eq_of_getLsbD_eq
  intro i hi
  rw [BitVec.getLsbD_extractLsb', getLsbD_packInfo_upper _ _ _ _ _ _ _ (by omega) (by omega),
    BitVec.getLsbD_zero, Bool.and_false, Bool.and_false, BitVec.getLsbD_zero]

/-- Bits 8 to 13 of CARD_INFO: the flags of R31. -/
theorem packInfo_flags :
    let info := packInfo fc numValid fcValid odd even hasParity len
    info.getLsbD 8 = hasParity ∧ info.getLsbD 9 = (hasParity && even && odd) ∧
      info.getLsbD 10 = even ∧ info.getLsbD 11 = odd ∧ info.getLsbD 12 = fcValid ∧
      info.getLsbD 13 = numValid := by
  have hbit := getLsbD_packInfo fc numValid fcValid odd even hasParity len
  exact ⟨hbit 8 (by decide), hbit 9 (by decide), hbit 10 (by decide), hbit 11 (by decide),
    hbit 12 (by decide), hbit 13 (by decide)⟩

end

/-- CARD_INFO of a supported frame holds its length (R31). -/
theorem cardOf_len {len : FrameCount} (h : SupportedLength len) (v : FrameReg) :
    (cardOf len v).info.extractLsb' 0 8 = len := by
  rcases h with rfl | rfl | rfl | rfl <;> exact packInfo_len ..

/-! ### Holding (R154, R155) -/

theorem State.loadCard_of_valid {s : State} (h : s.cur.flag .cardValid = true) (v : FrameReg)
    (c : CardRead) : s.loadCard v c = s.raise .cardOvr := by
  rw [State.loadCard_eq, if_pos h]

theorem State.loadCard_of_not_valid {s : State} (h : s.cur.flag .cardValid = false) (v : FrameReg)
    (c : CardRead) :
    s.loadCard v c =
      (s.putNxt { s.nxt with cardLo := v.extractLsb' 0 32, cardHi := v.extractLsb' 32 32,
                             cardInfo := c.info, cardNum := c.num }).raise .cardValid := by
  rw [State.loadCard_eq, if_neg (Bool.eq_false_iff.mp h)]

/-- A frame of at most 32 bits loads the raw value into CARD_LO alone. -/
theorem State.loadCard_short {s : State} (h : s.cur.flag .cardValid = false) {w : Nat} (f : BitVec w)
    (hw : w ≤ 32) (c : CardRead) :
    s.loadCard (f.setWidth 64) c =
      (s.putNxt { s.nxt with cardLo := f.setWidth 32, cardHi := 0#32,
                             cardInfo := c.info, cardNum := c.num }).raise .cardValid := by
  rw [State.loadCard_of_not_valid h, BitVec.extractLsb'_setWidth_of_le (by decide),
    BitVec.extractLsb'_setWidth_of_le (by decide), extractLsb'_zero_eq_setWidth,
    extractLsb'_of_width_le f 32 hw]

/-- The event of a close, as its bit of STATUS (R261). -/
theorem closeEvent_bit (b : Block) (len : FrameCount) :
    (closeEvent b len).bit =
      if SupportedLength len then (if b.flag .cardValid then 0x002#11 else 0x001#11)
      else (if b.flag .errValid then 0x008#11 else 0x004#11) := by
  unfold closeEvent
  simp only [supported_iff]
  repeat' split
  all_goals rfl

/-- A close leaves the decoder to its tick. -/
theorem closedBlock_wd (b n : Block) (len : FrameCount) (v : FrameReg) :
    (closedBlock b n len v).wd = n.wd := by
  unfold closedBlock
  repeat' split
  all_goals rfl

/-- What a close loads of a supported frame (R148). -/
theorem closedBlock_card {b : Block} (n : Block) {len : FrameCount} (v : FrameReg)
    (hlen : SupportedLength len) (hv : b.flag .cardValid = false) :
    (closedBlock b n len v).cardLo = v.extractLsb' 0 32 ∧
      (closedBlock b n len v).cardHi = v.extractLsb' 32 32 ∧
      (closedBlock b n len v).cardInfo.extractLsb' 0 8 = len := by
  rw [closedBlock, if_pos ((supported_iff len).mpr hlen), if_neg (Bool.eq_false_iff.mp hv)]
  exact ⟨rfl, rfl, cardOf_len hlen v⟩

/-- What a close loads of an unsupported frame (R148). -/
theorem closedBlock_err {b : Block} (n : Block) {len : FrameCount} (v : FrameReg)
    (hlen : ¬SupportedLength len) (hv : b.flag .errValid = false) :
    (closedBlock b n len v).errLo = v.extractLsb' 0 32 ∧
      (closedBlock b n len v).errHi = v.extractLsb' 32 32 ∧
      (closedBlock b n len v).errLen = len.setWidth 32 := by
  rw [closedBlock, if_neg (mt (supported_iff len).mp hlen), if_neg (Bool.eq_false_iff.mp hv)]
  exact ⟨rfl, rfl, rfl⟩

/-! ### CLOSE (R145, R148, R158) -/

theorem Decoder.closes_iff (d : Decoder) : d.closes = true ↔ d.count ≠ 0#8 ∧ d.srem = 0#32 := by
  simp [Decoder.closes]

theorem Decoder.closes_eq_false_iff (d : Decoder) :
    d.closes = false ↔ d.count = 0#8 ∨ d.srem ≠ 0#32 := by
  rw [← Bool.not_eq_true, d.closes_iff, not_and_or, not_not]

theorem exec_close_of_closes {s : State} (h : s.cur.wd.closes = true) :
    exec .close s = .next (s.closeFrame s.cur.wd.count s.cur.wd.shift) :=
  congrArg _ (if_pos h)

theorem exec_close_of_not_closes {s : State} (h : s.cur.wd.closes = false) :
    exec .close s = .next s :=
  congrArg _ (if_neg (Bool.eq_false_iff.mp h))

/-- The row that a frame decodes to does what `Close(L, v)` does, when the register fits the length. -/
theorem exec_decodeFrame (s : State) {len : FrameCount} {v : FrameReg}
    (h : frameFits len v = true) : exec (decodeFrame len v) s = .next (s.closeFrame len v) := by
  have hv := setWidth_of_frameFits h
  by_cases hlen : SupportedLength len
  · rcases hlen with rfl | rfl | rfl | rfl
    · exact congrArg (fun x => Host.Outcome.next (s.loadCard x (cardW26 x))) hv
    · exact congrArg (fun x => Host.Outcome.next (s.loadCard x cardW32)) hv
    · exact congrArg (fun x => Host.Outcome.next (s.loadCard x (cardW34 x))) hv
    · rfl
  · rw [decodeFrame_unsupported hlen, s.closeFrame_eq, if_neg (mt (supported_iff len).mp hlen)]
    rfl

/-! ### WD_TICK (R141 to R147, R160) -/

/-- The bits that a tick with these line levels receives: a falling edge of DATA0 is a 0 and one of DATA1
a 1, in this order (R141, R142, R146). -/
def Decoder.received (d : Decoder) (d0 d1 : Bool) : List Bool :=
  (if d.prev0 && !d0 then [false] else []) ++ (if d.prev1 && !d1 then [true] else [])

theorem Decoder.age_of_closes {d : Decoder} (h : d.closes = true) :
    d.age = { d with count := 0#8, shift := 0#64 } := if_pos h

theorem Decoder.age_of_open {d : Decoder} (hopen : d.count ≠ 0#8) (hrem : d.srem ≠ 0#32) :
    d.age = { d with srem := d.srem - 1#32 } := by
  rw [Decoder.age, if_neg (Bool.eq_false_iff.mp (d.closes_eq_false_iff.mpr (.inr hrem))),
    if_pos (bne_iff_ne.mpr hopen)]

theorem Decoder.age_of_empty {d : Decoder} (h : d.count = 0#8) : d.age = d := by
  rw [Decoder.age, if_neg (Bool.eq_false_iff.mp (d.closes_eq_false_iff.mpr (.inl h))), if_neg]
  simp [h]

/-- Ageing in the terms of R147: a silent frame is emptied, and the countdown of another open one runs. -/
theorem Decoder.age_eq (d : Decoder) :
    d.age =
      { d with
        count := if d.count ≠ 0#8 ∧ d.srem = 0#32 then 0#8 else d.count
        shift := if d.count ≠ 0#8 ∧ d.srem = 0#32 then 0#64 else d.shift
        srem := if d.count ≠ 0#8 ∧ d.srem ≠ 0#32 then d.srem - 1#32 else d.srem } := by
  by_cases hopen : d.count = 0#8
  · rw [Decoder.age_of_empty hopen]
    simp only [hopen, ne_eq, not_true_eq_false, false_and, if_false]
    rw [← hopen]
  by_cases hrem : d.srem = 0#32
  · rw [Decoder.age_of_closes (d.closes_iff.mpr ⟨hopen, hrem⟩)]
    simp [hopen, hrem]
  · rw [Decoder.age_of_open hopen hrem]
    simp [hopen, hrem]

/-- A tick ages the frame, appends the bits received, and reloads the countdown if there is one. -/
theorem Decoder.sample_eq (d : Decoder) (silence : Word) (d0 d1 : Bool) :
    d.sample silence d0 d1 =
      { primed := d.primed, prev0 := d0, prev1 := d1
        count := (d.received d0 d1).foldl (fun c _ => countUp c) d.age.count
        shift := (d.received d0 d1).foldl appendBit d.age.shift
        srem := if d.received d0 d1 ≠ [] then silence else d.age.srem } := by
  have hprimed : d.age.primed = d.primed := by rw [d.age_eq]
  unfold Decoder.sample Decoder.received
  cases d.prev0 && !d0 <;> cases d.prev1 && !d1 <;> rw [← hprimed] <;> rfl

/-- A tick that closes no frame writes the decoder alone. -/
theorem exec_wdTick_of_not_closes {s : State} (h : s.wdCloses = false) :
    exec .wdTick s =
      .next (s.putNxt { s.nxt with wd := if s.wdRuns then s.wdTicked else s.nxt.wd }) := by
  have hevents : s.wdEvents = 0#11 := if_neg (Bool.eq_false_iff.mp h)
  have hheld : s.wdHeld s.nxt = s.nxt := if_neg (Bool.eq_false_iff.mp h)
  change Host.Outcome.next s.wdTick = _
  rw [s.wdTick_spec, hevents, State.wdBlock, hheld, BitVec.or_zero]
  rfl

theorem State.wdRuns_iff (s : State) :
    s.wdRuns = true ↔ s.inputs.tick = true ∧ s.clearsCtrl 0 = false ∧ s.cur.wdEn = true := by
  simp only [State.wdRuns, Bool.and_eq_true, Bool.not_eq_true', and_assoc]

/-- A primed tick runs CLOSE and then samples the lines. -/
theorem exec_wdTick_of_primed {s : State} (hruns : s.wdRuns = true) (hp : s.cur.wd.primed = true) :
    ∃ u, exec .close s = .next u ∧
      exec .wdTick s =
        .next (u.putNxt { u.nxt with
          wd := s.cur.wd.sample s.cur.silence s.inputs.d0 s.inputs.d1 }) := by
  obtain ⟨ht, hclr, hen⟩ := s.wdRuns_iff.mp hruns
  refine ⟨_, rfl, ?_⟩
  change Host.Outcome.next s.wdTick = _
  simp [State.wdTick, ht, hclr, hen, hp]

/-! ### Cycles that are ticks without a transaction -/

theorem State.written_of_tickCycle {s : State} (h : TickCycle s.inputs) (i : RegIndex) :
    s.written i = none :=
  s.written_none (fun w hw => by simp [busTxn_nil h.2.2] at hw) i

theorem step_of_tickCycle {s : State} (h : TickCycle s.inputs) : step s = .next s.nextState := by
  obtain ⟨hr, -, hbus⟩ := h
  exact step_normal (i? := none) hr (by simp [State.fetchBus, hbus])

/-- The events of a closed frame. -/
def decoderEvents : List Event := [.cardValid, .cardOvr, .errValid, .errOvr]

/-- The flags of the decoder's events after a cycle are set by the decoder's part of it alone. -/
theorem State.nextBlock_decoderFlag {s : State} (h : TickCycle s.inputs) {e : Event}
    (he : e ∈ decoderEvents) :
    s.nextBlock.flag e = (s.cur.flag e || s.wdEvents.getLsbD e.code) := by
  have hcode : ∀ e ∈ decoderEvents, e.code < 4 := by decide
  rw [s.nextBlock_flag, s.eventsNext_getLsbD (.inl (hcode e he)), State.cleared,
    State.written_of_tickCycle h, BitVec.getLsbD_zero, Bool.not_false, Bool.and_true]

/-- A running, primed decoder is at `d` in the state, with SILENCE and the flags of its events as in the
block `b`. -/
structure State.Follows (t : State) (b : Block) (d : Decoder) : Prop where
  en : t.cur.wdEn = true
  primed : t.cur.wd.primed = true
  wd : t.cur.wd = d
  silence : t.cur.silence = b.silence
  flag : ∀ e ∈ decoderEvents, t.cur.flag e = b.flag e

namespace State.Follows

variable {t : State} {b : Block} {d : Decoder}

theorem refl {s : State} (hen : s.cur.wdEn = true) (hp : s.cur.wd.primed = true) :
    s.Follows s.cur s.cur.wd where
  en := hen
  primed := hp
  wd := rfl
  silence := rfl
  flag := fun _ _ => rfl

theorem wdRuns (h : t.Follows b d) (hin : TickCycle t.inputs) : t.wdRuns = true :=
  t.wdRuns_iff.mpr
    ⟨hin.2.1, by rw [State.clearsCtrl, State.written_of_tickCycle hin], h.en⟩

theorem wdCloses (h : t.Follows b d) (hin : TickCycle t.inputs) : t.wdCloses = d.closes := by
  rw [State.wdCloses, h.wdRuns hin, h.primed, h.wd, Bool.true_and, Bool.true_and]

/-- The decoder after one more tick. -/
theorem wdNext (h : t.Follows b d) (hin : TickCycle t.inputs) :
    t.wdNext = d.sample b.silence t.inputs.d0 t.inputs.d1 := by
  have hclr := (t.wdRuns_iff.mp (h.wdRuns hin)).2.1
  rw [State.wdNext, hclr, h.wdRuns hin, State.wdTicked, h.primed, h.wd, h.silence]
  rfl

/-- A tick that closes no frame. -/
theorem step (h : t.Follows b d) (hin : TickCycle t.inputs) (hclose : d.closes = false) :
    ∃ u, step t = .next u ∧
      u.Follows b (d.sample b.silence t.inputs.d0 t.inputs.d1) := by
  have hw := State.written_of_tickCycle hin
  have hctrl : t.nextBlock.ctrl = t.cur.ctrl := by simp [State.nextBlock, State.ctrlNext, hw]
  refine ⟨t.nextState, step_of_tickCycle hin, ?en, ?primed, h.wdNext hin, ?silence, ?flag⟩
  case en => exact (congrArg (·.getLsbD 0) hctrl).trans h.en
  case primed =>
    change t.wdNext.primed = true
    rw [h.wdNext hin, Decoder.sample_eq, ← h.wd]
    exact h.primed
  case silence =>
    change (t.written 5#6).getD t.cur.silence = _
    rw [hw]
    exact h.silence
  case flag =>
    intro e he
    change t.nextBlock.flag e = _
    rw [State.nextBlock_decoderFlag hin he, t.wdEvents_getLsbD, h.wdCloses hin, hclose,
      Bool.false_and, Bool.or_false, h.flag e he]

end State.Follows

/-! ### Waiting out the silence (R144, R145) -/

/-- A tick without a transaction, at given levels of the data lines. -/
abbrev LineCycle (l0 l1 : Bool) (p : Inputs) : Prop := TickCycle p ∧ p.d0 = l0 ∧ p.d1 = l1

theorem toNat_sub_ofNat {x : Word} {n : Nat} (h : n ≤ x.toNat) :
    (x - BitVec.ofNat 32 n).toNat = x.toNat - n := by
  have hlt := x.isLt
  have hn : (BitVec.ofNat 32 n).toNat = n := Nat.mod_eq_of_lt (by omega)
  rw [BitVec.toNat_sub_of_le (by rwa [BitVec.le_def, hn]), hn]

theorem sub_ofNat_sub_ofNat (x : Word) (m n : Nat) :
    x - BitVec.ofNat 32 m - BitVec.ofNat 32 n = x - BitVec.ofNat 32 (m + n) := by
  rw [BitVec.ofNat_add, sub_sub]

/-- The decoder after n ticks at these levels that bring no bit and end before the silence does. -/
def Decoder.waited (d : Decoder) (l0 l1 : Bool) (n : Nat) : Decoder :=
  { d with prev0 := if n = 0 then d.prev0 else l0, prev1 := if n = 0 then d.prev1 else l1
           srem := d.srem - BitVec.ofNat 32 n }

theorem Decoder.waited_zero (d : Decoder) (l0 l1 : Bool) : d.waited l0 l1 0 = d := by
  simp [Decoder.waited]

theorem Decoder.toNat_waited_srem {d : Decoder} {n : Nat} (l0 l1 : Bool) (h : n ≤ d.srem.toNat) :
    (d.waited l0 l1 n).srem.toNat = d.srem.toNat - n := toNat_sub_ofNat h

/-- A tick that brings no bit to an open frame counts its silence. -/
theorem Decoder.sample_of_quiet {d : Decoder} (silence : Word) {l0 l1 : Bool}
    (hq : d.received l0 l1 = []) (hopen : d.count ≠ 0#8) (hrem : d.srem ≠ 0#32) :
    d.sample silence l0 l1 = { d with prev0 := l0, prev1 := l1, srem := d.srem - 1#32 } := by
  rw [Decoder.sample_eq, hq, Decoder.age_of_open hopen hrem]
  rfl

theorem Decoder.received_steady {d : Decoder} {l0 l1 : Bool} (h0 : d.prev0 = l0)
    (h1 : d.prev1 = l1) : d.received l0 l1 = [] := by
  rw [Decoder.received, h0, h1]
  cases l0 <;> cases l1 <;> rfl

theorem Decoder.received_idle (d : Decoder) : d.received true true = [] := by
  simp [Decoder.received]

/-- One more quiet tick. -/
theorem Decoder.sample_waited {d : Decoder} (silence : Word) {l0 l1 : Bool} {n : Nat}
    (hq : d.received l0 l1 = []) (hopen : d.count ≠ 0#8) (hn : n < d.srem.toNat) :
    (d.waited l0 l1 n).sample silence l0 l1 = d.waited l0 l1 (n + 1) := by
  have hquiet : (d.waited l0 l1 n).received l0 l1 = [] := by
    by_cases h0 : n = 0
    · rw [h0, Decoder.waited_zero, hq]
    · exact Decoder.received_steady (if_neg h0) (if_neg h0)
  have hrem : (d.waited l0 l1 n).srem ≠ 0#32 := by
    have := Decoder.toNat_waited_srem l0 l1 hn.le
    bv_omega
  rw [Decoder.sample_of_quiet silence hquiet hopen hrem]
  exact congrArg (Decoder.mk _ _ _ _ _) (sub_ofNat_sub_ofNat d.srem n 1)

/-- A run of ticks at constant levels, no longer than the countdown, brings an open frame no bit and does
not close it. -/
theorem State.Follows.wait {t : State} {b : Block} {d : Decoder} {l0 l1 : Bool} {n : Nat}
    (h : t.Follows b d) (hexp : t.Expects n (LineCycle l0 l1)) (hq : d.received l0 l1 = [])
    (hopen : d.count ≠ 0#8) (hn : n ≤ d.srem.toNat) :
    ∀ j ≤ n, ∃ u, runCycles j t = .next u ∧ u.stim = t.stim.drop j ∧
      u.Follows b (d.waited l0 l1 j) := by
  refine runCycles_of_expects hexp (by rwa [Decoder.waited_zero]) ?_
  rintro j u hj ⟨hin, hl0, hl1⟩ hu
  have hclose : (d.waited l0 l1 j).closes = false := by
    have := Decoder.toNat_waited_srem l0 l1 (hj.le.trans hn)
    exact (Decoder.closes_eq_false_iff _).mpr (.inr (by bv_omega))
  have hnext := hu.step hin hclose
  rwa [hl0, hl1, Decoder.sample_waited b.silence hq hopen (by omega)] at hnext

/-- The tick that closes the frame empties it and hands it over (R145, R148). -/
theorem State.Follows.step_close {t : State} {b : Block} {d : Decoder} (h : t.Follows b d)
    (hin : SilentCycle t.inputs) (hclose : d.closes = true) :
    ∃ u, Machine.step t = .next u ∧ u.cur.wd.count = 0#8 ∧ u.cur.wd.shift = 0#64 ∧
      (SupportedLength d.count → b.flag .cardValid = false →
        u.cur.flag .cardValid = true ∧ u.cur.cardLo = d.shift.extractLsb' 0 32 ∧
        u.cur.cardHi = d.shift.extractLsb' 32 32 ∧ u.cur.cardInfo.extractLsb' 0 8 = d.count) ∧
      (¬SupportedLength d.count → b.flag .errValid = false →
        u.cur.flag .errValid = true ∧ u.cur.errLo = d.shift.extractLsb' 0 32 ∧
        u.cur.errHi = d.shift.extractLsb' 32 32 ∧ u.cur.errLen = d.count.setWidth 32) := by
  obtain ⟨htick, hd0, hd1⟩ := hin
  have hcloses : t.wdCloses = true := (h.wdCloses htick).trans hclose
  have hheld : t.heldNext = closedBlock t.cur t.cur d.count d.shift := by
    rw [State.heldNext, State.wdHeld, if_pos hcloses, h.wd]
  have hwd : t.wdNext = { d with prev0 := true, prev1 := true, count := 0#8, shift := 0#64 } := by
    rw [h.wdNext htick, hd0, hd1, Decoder.sample_eq, Decoder.received_idle,
      Decoder.age_of_closes hclose]
    rfl
  have hraised : ∀ e ∈ decoderEvents, closeEvent t.cur d.count = e →
      t.nextBlock.flag e = true := by
    intro e he hev
    rw [State.nextBlock_decoderFlag htick he, t.wdEvents_getLsbD, hcloses, h.wd, hev]
    simp
  refine ⟨t.nextState, step_of_tickCycle htick, ?count, ?shift, ?card, ?err⟩
  case count => exact congrArg Decoder.count hwd
  case shift => exact congrArg Decoder.shift hwd
  case card =>
    intro hlen hv
    have hcur : t.cur.flag .cardValid = false := (h.flag _ (by decide)).trans hv
    refine ⟨hraised _ (by decide) ?_, ?_⟩
    · rw [closeEvent, if_pos ((supported_iff _).mpr hlen), hcur]
      rfl
    · change t.heldNext.cardLo = _ ∧ t.heldNext.cardHi = _ ∧ t.heldNext.cardInfo.extractLsb' 0 8 = _
      rw [hheld]
      exact closedBlock_card _ _ hlen hcur
  case err =>
    intro hlen hv
    have hcur : t.cur.flag .errValid = false := (h.flag _ (by decide)).trans hv
    refine ⟨hraised _ (by decide) ?_, ?_⟩
    · rw [closeEvent, if_neg (mt (supported_iff _).mp hlen), hcur]
      rfl
    · change t.heldNext.errLo = _ ∧ t.heldNext.errHi = _ ∧ t.heldNext.errLen = _
      rw [hheld]
      exact closedBlock_err _ _ hlen hcur

/-! ### Line pulses (R81, R162) -/

/-- The decoder after a line pulse that brings a bit and n ticks after it. -/
def Decoder.pulsed (d : Decoder) (silence : Word) (bit : Bool) (n : Nat) : Decoder :=
  { d.append bit with srem := silence - BitVec.ofNat 32 n }

/-- The decoder is between two line pulses: its lines are idle, no frame is about to close, and the frame
holds these bits. -/
structure Decoder.Between (d : Decoder) (bits : List Bool) : Prop where
  prev0 : d.prev0 = true
  prev1 : d.prev1 = true
  closes : d.closes = false
  count : d.count = frameCount bits
  shift : d.shift = frameValue bits

theorem Decoder.pulsed_count {d : Decoder} {bits : List Bool} (h : d.Between bits) (silence : Word)
    (bit : Bool) (n : Nat) : (d.pulsed silence bit n).count = frameCount (bits ++ [bit]) := by
  rw [frameCount_concat, ← h.count]
  rfl

theorem Decoder.pulsed_shift {d : Decoder} {bits : List Bool} (h : d.Between bits) (silence : Word)
    (bit : Bool) (n : Nat) : (d.pulsed silence bit n).shift = frameValue (bits ++ [bit]) := by
  rw [frameValue_concat, ← h.shift]
  rfl

theorem Decoder.toNat_pulsed_srem (d : Decoder) {silence : Word} (bit : Bool) {n : Nat}
    (h : n ≤ silence.toNat) : (d.pulsed silence bit n).srem.toNat = silence.toNat - n :=
  toNat_sub_ofNat h

/-- A pulse that ends before the silence does is followed by another of the same frame. -/
theorem Decoder.Between.pulsed {d : Decoder} {bits : List Bool} (h : d.Between bits) {silence : Word}
    (bit : Bool) {n : Nat} (hn : n < silence.toNat) :
    (d.pulsed silence bit n).Between (bits ++ [bit]) where
  prev0 := h.prev0
  prev1 := h.prev1
  closes := by
    have := d.toNat_pulsed_srem bit hn.le
    exact (Decoder.closes_eq_false_iff _).mpr (.inr (by bv_omega))
  count := Decoder.pulsed_count h ..
  shift := Decoder.pulsed_shift h ..

/-- The decoder after the first tick of a line pulse. -/
def Decoder.struck (d : Decoder) (silence : Word) (bit : Bool) : Decoder :=
  { d.append bit with prev0 := bit, prev1 := !bit, srem := silence }

/-- The first tick of a line pulse appends its bit and reloads the countdown. -/
theorem Decoder.Between.sample {d : Decoder} {bits : List Bool} (h : d.Between bits) (silence : Word)
    (bit : Bool) : d.sample silence bit (!bit) = d.struck silence bit := by
  have hreceived : d.received bit (!bit) = [bit] := by
    rw [Decoder.received, h.prev0, h.prev1]
    cases bit <;> rfl
  have hage : d.age.count = d.count ∧ d.age.shift = d.shift := by
    have hopen := (not_congr d.closes_iff).mp (Bool.eq_false_iff.mp h.closes)
    rw [d.age_eq]
    exact ⟨if_neg hopen, if_neg hopen⟩
  rw [Decoder.sample_eq, hreceived, hage.1, hage.2]
  rfl

/-- A line pulse is its first tick, the other ticks low, and the ticks idle. -/
theorem Decoder.Between.waited {d : Decoder} {bits : List Bool} (h : d.Between bits) (silence : Word)
    (bit : Bool) (m : Nat) {n : Nat} (hn : n ≠ 0) :
    ((d.struck silence bit).waited bit (!bit) m).waited true true n =
      d.pulsed silence bit (m + n) := by
  simp [Decoder.struck, Decoder.waited, Decoder.pulsed, Decoder.append, hn, h.prev0, h.prev1,
    sub_ofNat_sub_ofNat]

/-- A stimulus that begins with cycles of a condition expects them. -/
theorem State.Expects.of_append {s : State} {c : Inputs → Prop} {ps rest : List Inputs}
    (hstim : s.stim = ps ++ rest) (hps : ∀ p ∈ ps, c p) : s.Expects ps.length c :=
  ⟨by simp [hstim], by simpa [hstim] using hps⟩

/-- A run of ticks at constant levels at the head of the stimulus. -/
theorem State.Follows.wait_append {t : State} {b : Block} {d : Decoder} {l0 l1 : Bool}
    {ps rest : List Inputs} (h : t.Follows b d) (hstim : t.stim = ps ++ rest)
    (hps : ∀ p ∈ ps, LineCycle l0 l1 p) (hq : d.received l0 l1 = []) (hopen : d.count ≠ 0#8)
    (hlen : ps.length ≤ d.srem.toNat) :
    ∃ u, runCycles ps.length t = .next u ∧ u.stim = rest ∧ u.Follows b (d.waited l0 l1 ps.length) := by
  obtain ⟨u, hrun, hustim, hu⟩ := h.wait (.of_append hstim hps) hq hopen hlen _ le_rfl
  rw [hstim, List.drop_left] at hustim
  exact ⟨u, hrun, hustim, hu⟩

/-- One line pulse whose ticks after the first are no more than the silence. -/
theorem State.Follows.pulse {t : State} {b : Block} {d : Decoder} {bits : List Bool} {x : LinePulse}
    {rest : List Inputs} (h : t.Follows b d) (hd : d.Between bits) (hx : x.OnTicks)
    (hlen : x.cycles.length ≤ b.silence.toNat + 1) (hstim : t.stim = x.cycles ++ rest) :
    ∃ u, runCycles x.cycles.length t = .next u ∧ u.stim = rest ∧
      u.Follows b (d.pulsed b.silence x.bit (x.cycles.length - 1)) := by
  obtain ⟨bit, low, idle⟩ := x
  obtain ⟨hlow, hidle, hlows, hidles⟩ := hx
  obtain ⟨p, low, rfl⟩ := List.exists_cons_of_ne_nil hlow
  obtain ⟨⟨hp, hp0, hp1⟩, hlows⟩ := List.forall_mem_cons.mp hlows
  dsimp only at hp0 hp1 hlows
  simp only [LinePulse.cycles, List.cons_append, List.length_cons, List.length_append,
    Nat.add_sub_cancel, List.append_assoc] at hlen hstim ⊢
  have hin := State.inputs_of_stim hstim
  obtain ⟨u, hstep, hu⟩ := h.step (by rwa [hin]) hd.closes
  rw [hin, hp0, hp1, hd.sample] at hu
  have hustim : u.stim = low ++ (idle ++ rest) := by rw [step_next_stim hstep, hstim]; rfl
  have hrem : (d.struck b.silence bit).srem.toNat = b.silence.toNat := rfl
  obtain ⟨v, hrunv, hvstim, hv⟩ := hu.wait_append hustim hlows (Decoder.received_steady rfl rfl)
    (countUp_ne_zero _) (by omega)
  have hvrem := Decoder.toNat_waited_srem (d := d.struck b.silence bit) (n := low.length) bit (!bit)
    (by omega)
  obtain ⟨w, hrunw, hwstim, hw⟩ := hv.wait_append hvstim hidles (Decoder.received_idle _)
    (countUp_ne_zero _) (by omega)
  rw [hd.waited _ _ _ (mt List.length_eq_zero_iff.mp hidle)] at hw
  refine ⟨w, ?_, hwstim, hw⟩
  rw [Nat.add_comm]
  exact runCycles_trans (runCycles_one hstep) (runCycles_trans hrunv hrunw)

/-- Line pulses that follow one another within the silence add their bits to the frame. -/
theorem State.Follows.pulses {t : State} {b : Block} {d : Decoder} {bits : List Bool}
    {qs : List LinePulse} {rest : List Inputs} (h : t.Follows b d) (hd : d.Between bits)
    (hqs : ∀ x ∈ qs, x.OnTicks ∧ x.cycles.length ≤ b.silence.toNat)
    (hstim : t.stim = qs.flatMap LinePulse.cycles ++ rest) :
    ∃ u e, runCycles (qs.flatMap LinePulse.cycles).length t = .next u ∧ u.stim = rest ∧
      u.Follows b e ∧ e.Between (bits ++ qs.map (·.bit)) := by
  induction qs generalizing t d bits with
  | nil => exact ⟨t, d, rfl, hstim, h, by simpa using hd⟩
  | cons x qs ih =>
    obtain ⟨⟨hx, hlen⟩, hqs⟩ := List.forall_mem_cons.mp hqs
    rw [List.flatMap_cons, List.append_assoc] at hstim
    obtain ⟨u, hrunu, hustim, hu⟩ := h.pulse hd hx (by omega) hstim
    have hpos : x.cycles.length ≠ 0 := by simp [LinePulse.cycles, hx.1]
    obtain ⟨v, e, hrunv, hvstim, hv, he⟩ := ih hu (hd.pulsed x.bit (by omega)) hqs hustim
    refine ⟨v, e, ?_, hvstim, hv, by simpa using he⟩
    rw [List.flatMap_cons, List.length_append]
    exact runCycles_trans hrunu hrunv

end Machine

end Sys2Proof

namespace Sys2Proof.Proofs

open Sys2Proof.Machine

/-- Settles O4: the register fits the count of the bits received, so that the decoded row does what
`Close(L, v)` does. -/
theorem closeRunsDecodedFrame : Obligations.CloseRunsDecodedFrame := by
  refine ⟨?decoded, ?closes, ?closed⟩
  case decoded =>
    intro s bits i hdec hcount hshift hsrem
    have hne : bits ≠ [] := by
      rintro rfl
      cases hdec
    rw [decode_frame_of_ne_nil hne] at hdec
    cases hdec
    have hopen : s.cur.wd.count ≠ 0#8 := by
      rw [hcount]
      exact frameCount_ne_zero hne
    rw [exec_close_of_closes (s.cur.wd.closes_iff.mpr ⟨hopen, hsrem⟩), hcount, hshift,
      exec_decodeFrame s (frameFits_of_bits bits)]
  case closes =>
    intro s hopen hsrem
    refine ⟨_, exec_close_of_closes (s.cur.wd.closes_iff.mpr ⟨hopen, hsrem⟩), ?_⟩
    rw [s.closeFrame_spec, ← closeEvent_bit]
    exact ⟨rfl, closedBlock_wd .., rfl, closedBlock_card _ _, closedBlock_err _ _⟩
  case closed =>
    intro s h
    exact exec_close_of_not_closes (s.cur.wd.closes_eq_false_iff.mpr h)

/-- Settles O20: each bit of CARD_INFO is that of `packInfo`, and the XOR of a parity group is the parity
of its ones in the order received. -/
theorem w26Decodes : Obligations.W26Decodes := by
  intro s f hv
  obtain ⟨hpar, hok, heven, hodd, hfc, hnum⟩ := packInfo_flags (w26Facility (f.setWidth 64)) true true
    (w26Odd (f.setWidth 64)) (w26Even (f.setWidth 64)) true 26#8
  refine ⟨(cardW26 (f.setWidth 64)).info, ?loads, packInfo_len .., hpar, heven.trans ?even,
    hodd.trans ?odd, ?ok, hfc, hnum, packInfo_reserved_low .., (packInfo_fc ..).trans ?facility,
    packInfo_reserved_high ..⟩
  case loads =>
    have hfield : w26Number (f.setWidth 64) = f.extractLsb' 1 16 :=
      BitVec.extractLsb'_setWidth_of_le (by decide)
    rw [← hfield]
    exact congrArg _ (State.loadCard_short hv f (by decide) _)
  case even => simp only [w26Even, xorReduce_first f 13 13 (by decide), ← decide_not, Nat.mod_two_ne_one]
  case odd => exact xorReduce_last f 13 13 (by decide)
  case ok => exact hok.trans (congrArg₂ _ heven.symm hodd.symm)
  case facility => exact BitVec.extractLsb'_setWidth_of_le (by decide)

/-- Settles O21: as for W26, with the upper two bits of the raw value in CARD_HI and no facility code. -/
theorem w34Decodes : Obligations.W34Decodes := by
  intro s f hv
  obtain ⟨hpar, hok, heven, hodd, hfc, hnum⟩ := packInfo_flags 0#8 true false
    (w34Odd (f.setWidth 64)) (w34Even (f.setWidth 64)) true 34#8
  refine ⟨(cardW34 (f.setWidth 64)).info, ?loads, packInfo_len .., hpar, heven.trans ?even,
    hodd.trans ?odd, ?ok, hfc, hnum, packInfo_no_fc ..⟩
  case loads =>
    have hnumber : w34Number (f.setWidth 64) = f.extractLsb' 1 32 :=
      BitVec.extractLsb'_setWidth_of_le (by decide)
    rw [← hnumber, ← extractLsb'_eq_setWidth f 32 (by decide),
      ← BitVec.extractLsb'_setWidth_of_le (b := f) (w' := 64) (by decide),
      ← BitVec.extractLsb'_setWidth_of_le (b := f) (w' := 64) (start := 32) (by decide)]
    exact congrArg _ (State.loadCard_of_not_valid hv (f.setWidth 64) _)
  case even => simp only [w34Even, xorReduce_first f 17 17 (by decide), ← decide_not, Nat.mod_two_ne_one]
  case odd => exact xorReduce_last f 17 17 (by decide)
  case ok => exact hok.trans (congrArg₂ _ heven.symm hodd.symm)

/-- Settles O26: the count and the register of a run of appends are the folds of the two operations of
R143. -/
theorem appendingABit : Obligations.AppendingABit := by
  refine ⟨fun d b => ⟨appendBit_eq d.shift b, toNat_countUp d.count, rfl, rfl, rfl, rfl⟩, ?run⟩
  case run =>
    intro bits d hcount hshift
    rw [foldl_append_shift, foldl_append_count, hcount, hshift]
    refine ⟨toNat_frameCount bits, fun n hn => ?register, fun _ => rfl⟩
    case register => rw [getLsbD_foldl_appendBit bits _ n hn, BitVec.getLsbD_zero]

/-- Settles O28: CLOSE and the tick's sample read the same block, and the sample is its closed form. -/
theorem wdTickAccumulates : Obligations.WdTickAccumulates := by
  intro s ht hclr hen hp silent bits count shift
  obtain ⟨u, hclose, htick⟩ := exec_wdTick_of_primed (s.wdRuns_iff.mpr ⟨ht, hclr, hen⟩) hp
  refine ⟨u, hclose, htick.trans ?_⟩
  have happend : appendBit = fun (r : FrameReg) (b : Bool) => r <<< 1 ||| (if b then 1#64 else 0#64) :=
    funext₂ appendBit_eq
  rw [Decoder.sample_eq, foldl_countUp_eq, happend, Decoder.age_eq, hp]
  rfl

/-- Settles O54: the frame waits out its countdown S, and the next tick closes it. -/
theorem silentFrameCloses : Obligations.SilentFrameCloses := by
  intro s hen hp hopen hexp
  have hwait := (State.Follows.refl hen hp).wait (hexp.mono (Nat.le_succ _))
    (Decoder.received_idle _) hopen le_rfl
  refine ⟨fun k hk => ?stillOpen, ?closed⟩
  case stillOpen =>
    obtain ⟨t, hrun, -, ht⟩ := hwait k hk
    refine ⟨t, hrun, ?_⟩
    rw [ht.wd]
    exact ⟨rfl, rfl, Decoder.toNat_waited_srem true true hk⟩
  case closed =>
    obtain ⟨t, hrun, hstim, ht⟩ := hwait _ le_rfl
    have hrem := Decoder.toNat_waited_srem (d := s.cur.wd) true true le_rfl
    have hclose : (s.cur.wd.waited true true s.cur.wd.srem.toNat).closes = true :=
      (Decoder.closes_iff _).mpr ⟨hopen, by bv_omega⟩
    obtain ⟨u, hstep, hu⟩ := ht.step_close (hexp.inputs_drop (Nat.lt_succ_self _) hstim) hclose
    exact ⟨u, runCycles_trans hrun (runCycles_one hstep), hu⟩

/-- Settles O55: the pulses but the last leave the decoder between pulses, and the last one ends in an
open frame. -/
theorem pulseTrainIsReceived : Obligations.PulseTrainIsReceived := by
  intro s qs q rest hqs hq hlen hstim hen hp h0 h1 hcount hshift
  have hidle : s.cur.wd.Between [] :=
    ⟨h0, h1, s.cur.wd.closes_eq_false_iff.mpr (.inl hcount), hcount, hshift⟩
  rw [List.flatMap_append, List.flatMap_singleton, List.append_assoc] at hstim
  obtain ⟨t, d, hrunt, htstim, ht, hd⟩ := (State.Follows.refl hen hp).pulses hidle hqs hstim
  obtain ⟨u, hrunu, hustim, hu⟩ := ht.pulse hd hq hlen htstim
  rw [List.nil_append] at hd
  refine ⟨u, ?run, hustim, ?frame⟩
  case run =>
    rw [List.flatMap_append, List.flatMap_singleton, List.length_append]
    exact runCycles_trans hrunt hrunu
  case frame =>
    rw [hu.wd, Decoder.pulsed_count hd, Decoder.pulsed_shift hd, toNat_frameCount,
      Decoder.toNat_pulsed_srem d q.bit (by omega), List.map_append]
    exact ⟨by simp, rfl, rfl, hd.prev0, hd.prev1, hu.flag⟩

/-- Settles O22: CARD_INFO of a raw format is a fixed word. -/
theorem rawFormatsDecode : Obligations.RawFormatsDecode := by
  refine ⟨fun s f hv => ?w32, fun s f hv => ?w64⟩
  case w32 =>
    have hload := State.loadCard_short hv f (by decide) cardW32
    rw [BitVec.setWidth_eq] at hload
    exact congrArg _ hload
  case w64 => exact congrArg _ (State.loadCard_of_not_valid hv f cardW64)

/-- Settles O23: the four rows load through the same holding rule. -/
theorem cardReadDropped : Obligations.CardReadDropped := by
  intro s hv
  have hdrop : ∀ v c, Host.Outcome.next (φ := Fault) (ρ := Refusal) (s.loadCard v c) =
      .next { s with raised := s.raised ||| 0x002#11 } := fun v c =>
    congrArg _ (State.loadCard_of_valid hv v c)
  exact ⟨fun _ => hdrop _ _, fun _ => hdrop _ _, fun _ => hdrop _ _, fun _ => hdrop _ _⟩

/-- Settles O24: ERR_* are written by the holding rule and by a close alone. -/
theorem unsupportedFrameReported : Obligations.UnsupportedFrameReported := by
  refine ⟨fun s len v hv => ?reported, fun s len v hv => ?dropped, ?kept⟩
  case reported => exact congrArg _ ((s.loadErr_eq len v).trans (if_neg (Bool.eq_false_iff.mp hv)))
  case dropped => exact congrArg _ ((s.loadErr_eq len v).trans (if_pos hv))
  case kept =>
    intro s t hr hstep hopen
    obtain rfl := step_next_of_not_rst hr hstep
    have hload : s.loadsErr = false := State.loadsErr_eq_false (.inr fun h => hopen h.1)
    change s.heldNext.errLo = _ ∧ s.heldNext.errHi = _ ∧ s.heldNext.errLen = _
    simp [s.heldNext_eq, hload]

/-- Settles O27: the conditions named are those of a decoder that does not run, and an unprimed tick closes
no frame. -/
theorem wdTickStopsAndPrimes : Obligations.WdTickStopsAndPrimes := by
  refine ⟨fun s hstop => ?stopped, fun s ht hclr hen hp => ?primes⟩
  case stopped =>
    have hruns : s.wdRuns = false := by
      rw [← Bool.not_eq_true, s.wdRuns_iff]
      rintro ⟨ht, hclr, hen⟩
      simp [ht, hclr, hen] at hstop
    rw [exec_wdTick_of_not_closes (by simp [State.wdCloses, hruns]), hruns]
    rfl
  case primes =>
    have hruns : s.wdRuns = true := s.wdRuns_iff.mpr ⟨ht, hclr, hen⟩
    rw [exec_wdTick_of_not_closes (by simp [State.wdCloses, hp]), hruns, State.wdTicked, hp]
    rfl

/-- Settles O29: with no bit there is no open frame to close. -/
theorem zeroBitFrames : Obligations.ZeroBitFrames := by
  refine ⟨fun s hempty => ?_, rfl⟩
  have hclose : s.cur.wd.closes = false := s.cur.wd.closes_eq_false_iff.mpr (.inl hempty)
  exact ⟨exec_close_of_not_closes hclose, _,
    exec_wdTick_of_not_closes (by rw [State.wdCloses, hclose, Bool.and_false])⟩

/-- Settles O30: stopping is one write of the decoder, and starting is decided by the enable bit. -/
theorem wdStopAndStart : Obligations.WdStopAndStart :=
  ⟨fun _ => rfl, fun _ hoff => congrArg _ (if_neg (Bool.eq_false_iff.mp hoff)),
    fun _ hon => congrArg _ (if_pos hon)⟩

end Sys2Proof.Proofs

/-! Proofs of the statements on the lock actuator (spec/42_lock_actuator.md): commands, the pulse, the
relock, and what the lock keeps over a whole cycle. -/

namespace Sys2Proof.Machine

/-! ### Durations (R183, R187, R191) -/

theorem atLeastOne_eq_max (x : Word) : atLeastOne x = BitVec.ofNat 32 (max x.toNat 1) := by
  apply BitVec.eq_of_toNat_eq
  have hx := x.isLt
  unfold atLeastOne
  split
  case isTrue h => simp [h]
  case isFalse h =>
    have hpos : x.toNat ≠ 0 := fun h0 => h (BitVec.eq_of_toNat_eq h0)
    rw [max_eq_left (by omega), BitVec.ofNat_toNat, BitVec.setWidth_eq]

/-- The countdown's end test is that of its last tick (R187). -/
theorem sub_one_eq_zero_iff (x : Word) : x - 1#32 = 0#32 ↔ x = 1#32 := sub_eq_zero

/-! ### Commands (R182 to R186) -/

theorem State.accepts_iff (s : State) :
    s.accepts = true ↔
      (s.command = some .lock ∨ s.command = some .unlock) ∧ s.cur.act.pActive = false := by
  simp [State.accepts]

theorem State.accepts_of_pActive {s : State} (h : s.cur.act.pActive = true) : s.accepts = false := by
  simp [State.accepts, h]

theorem State.commandEvents_of_accepts {s : State} (h : s.accepts = true) :
    commandEvents s.cur s.command = 0#11 := by
  obtain ⟨hlock | hunlock, hp⟩ := s.accepts_iff.mp h
  · simp [commandEvents, hlock, hp]
  · simp [commandEvents, hunlock, hp]

/-- A command that is not accepted is refused with CMD_REJ, unless it is NOP (R182, R185, R186). -/
theorem State.commandEvents_of_not_accepts {s : State} (h : s.accepts = false) :
    commandEvents s.cur s.command =
      if s.command = none ∨ s.command = some .nop then 0#11 else 0x040#11 := by
  have hbusy : s.command = some .lock ∨ s.command = some .unlock → s.cur.act.pActive = true := by
    intro hc
    by_contra hp
    rw [s.accepts_iff.mpr ⟨hc, Bool.eq_false_iff.mpr hp⟩] at h
    cases h
  cases hc : s.command with
  | none => rfl
  | some op =>
    cases op with
    | nop => rfl
    | lock => simp [commandEvents, hbusy (.inl hc), Event.bit, Event.code]
    | unlock => simp [commandEvents, hbusy (.inr hc), Event.bit, Event.code]
    | reserved => rfl

theorem State.commandEvents_of_not_pulse {s : State} (hlock : s.command ≠ some .lock)
    (hunlock : s.command ≠ some .unlock) :
    commandEvents s.cur s.command = if s.command = some .reserved then 0x040#11 else 0#11 := by
  cases hc : s.command with
  | none => rfl
  | some op =>
    cases op with
    | nop => rfl
    | lock => exact absurd hc hlock
    | unlock => exact absurd hc hunlock
    | reserved => rfl

theorem State.command_of_written {s : State} {v : Word} (h : s.written 4#6 = some v) :
    s.command = some (cmdOp v) := by
  rw [State.command, h, Option.map_some]

/-! ### The actuator's tick (R187 to R193) -/

section

variable {s : State}

theorem tickAct_of_pulse_running (hp : s.cur.act.pActive = true) (hr : s.cur.act.pRem ≠ 1#32)
    (a : Actuator) :
    tickAct s a = { a with pRem := s.cur.act.pRem - 1#32, pFault := s.pulseFault } := by
  rw [tickAct, if_pos hp, if_neg (mt (sub_one_eq_zero_iff _).mp hr)]

theorem tickAct_of_pulse_last (hp : s.cur.act.pActive = true) (hr : s.cur.act.pRem = 1#32)
    (a : Actuator) :
    tickAct s a =
      let ended : Actuator :=
        { a with pActive := false, pRem := 0#32, pFault := false, locked := s.lockedAfter }
      if s.cur.autoRelock = true ∧ s.lockedAfter = false then ended.arm s.cur.relock else ended := by
  rw [tickAct, if_pos hp, if_pos ((sub_one_eq_zero_iff _).mpr hr)]
  simp only [Bool.and_eq_true, Bool.not_eq_true']

theorem tickAct_of_relock (hp : s.cur.act.pActive = false) (hr : s.cur.act.rArmed = true)
    (a : Actuator) :
    tickAct s a =
      if s.cur.act.rRem = 1#32 then
        if s.cur.act.locked then a.disarm else a.disarm.startPulse true s.cur.pulse
      else { a with rRem := s.cur.act.rRem - 1#32 } := by
  rw [tickAct, if_neg (Bool.eq_false_iff.mp hp), if_pos hr]

theorem tickAct_of_idle (hp : s.cur.act.pActive = false) (hr : s.cur.act.rArmed = false)
    (a : Actuator) : tickAct s a = a := by
  rw [tickAct, if_neg (Bool.eq_false_iff.mp hp), if_neg (Bool.eq_false_iff.mp hr)]

theorem tickEvents_of_pulse_running (hr : s.cur.act.pRem ≠ 1#32) : tickEvents s = 0#11 :=
  if_neg fun h => hr ((sub_one_eq_zero_iff _).mp h.2)

theorem tickEvents_of_pulse_last (hp : s.cur.act.pActive = true) (hr : s.cur.act.pRem = 1#32) :
    tickEvents s = if s.pulseFault then 0x020#11 else 0x010#11 := by
  rw [tickEvents, if_pos ⟨hp, (sub_one_eq_zero_iff _).mpr hr⟩]
  cases s.pulseFault <;> rfl

theorem tickEvents_of_no_pulse (hp : s.cur.act.pActive = false) : tickEvents s = 0#11 :=
  if_neg fun h => Bool.eq_false_iff.mp hp h.1

/-! ### ACT_CYCLE and RELOCK_FIRE (R192, R196, R201) -/

theorem exec_actCycle (s : State) :
    exec .actCycle s =
      .next (s.form { s.nxt with act := s.actFormed s.nxt.act } (s.raised ||| s.actEvents)) :=
  congrArg _ s.actCycle_spec

/-- An accepted command is all the actuator does in its cycle (R195). -/
theorem exec_actCycle_of_accepts (h : s.accepts = true) {dir : Bool}
    (hdir : (s.command == some .lock) = dir) :
    exec .actCycle s =
      .next (s.form { s.nxt with act := (s.nxt.act.startPulse dir s.cur.pulse).disarm } s.raised) := by
  rw [exec_actCycle, State.actFormed, State.actEvents, State.commandEvents_of_accepts h]
  have hact : commandAct s.cur s.nxt.act s.command = (s.nxt.act.startPulse dir s.cur.pulse).disarm := by
    rw [State.commandAct_eq, if_pos h, hdir]
  simp only [hact, h, Bool.true_or, if_true, BitVec.or_zero]
  cases s.clearsCtrl 1 <;> rfl

/-- A tick without an accepted command; the relock cancel of a CTRL write comes last (R196). -/
theorem exec_actCycle_of_tick (h : s.accepts = false) (ht : s.inputs.tick = true) :
    exec .actCycle s =
      .next (s.form
        { s.nxt with
          act := if s.clearsCtrl 1 then (tickAct s s.nxt.act).disarm else tickAct s s.nxt.act }
        (s.raised ||| commandEvents s.cur s.command ||| tickEvents s)) := by
  rw [exec_actCycle, State.actFormed, State.actEvents]
  simp [State.commandAct_eq, h, ht, BitVec.or_assoc]

theorem exec_actCycle_of_no_tick (h : s.accepts = false) (ht : s.inputs.tick = false) :
    exec .actCycle s =
      .next (s.form { s.nxt with act := if s.clearsCtrl 1 then s.nxt.act.disarm else s.nxt.act }
        (s.raised ||| commandEvents s.cur s.command)) := by
  rw [exec_actCycle, State.actFormed, State.actEvents]
  simp [State.commandAct_eq, h, ht]

theorem exec_relockFire_of_fires (ht : s.inputs.tick = true) (ha : s.cur.act.rArmed = true)
    (hr : s.cur.act.rRem = 1#32) : exec .relockFire s = .next s.fireRelock :=
  congrArg _ (if_pos (by simp [ht, ha, hr]))

theorem exec_relockFire_of_not_fires
    (h : s.inputs.tick = false ∨ s.cur.act.rArmed = false ∨ s.cur.act.rRem ≠ 1#32) :
    exec .relockFire s = .next s :=
  congrArg _ (if_neg (by rcases h with ht | ha | hr <;> simp [*]))

/-! ### The lock over a whole cycle (R189 to R191) -/

theorem State.pulseFault_iff (s : State) : s.pulseFault = true ↔ s.FaultSeen := by
  simp [State.pulseFault]

theorem tickAct_locked (s : State) (a : Actuator) :
    (tickAct s a).locked =
      if s.cur.act.pActive = true ∧ s.cur.act.pRem = 1#32 then s.lockedAfter else a.locked := by
  cases hp : s.cur.act.pActive with
  | true =>
    by_cases hr : s.cur.act.pRem = 1#32
    · rw [if_pos ⟨rfl, hr⟩, tickAct_of_pulse_last hp hr]
      dsimp only
      split <;> rfl
    · rw [tickAct_of_pulse_running hp hr, if_neg fun h => hr h.2]
  | false =>
    rw [if_neg fun h => Bool.false_ne_true h.1]
    cases hr : s.cur.act.rArmed with
    | true =>
      rw [tickAct_of_relock hp hr]
      repeat' split
      all_goals rfl
    | false => rw [tickAct_of_idle hp hr]

/-- LOCKED after a cycle: the pulse's direction when one completes without a fault, else as before. -/
theorem State.actNext_locked (s : State) :
    s.actNext.locked = if s.PulseEnds ∧ ¬s.FaultSeen then s.cur.act.pDir else s.cur.act.locked := by
  obtain ⟨a, hnext, hcases⟩ := s.actNext_cases
  have hlocked : s.actNext.locked = a.locked := by
    rw [hnext]
    split <;> rfl
  rw [hlocked]
  rcases hcases with ⟨haccepts, rfl⟩ | ⟨-, ht, rfl⟩ | ⟨-, ht, rfl⟩
  · have hp := (s.accepts_iff.mp haccepts).2
    rw [if_neg fun h => Bool.eq_false_iff.mp hp h.1.2.1]
    rfl
  · rw [tickAct_locked, State.lockedAfter]
    simp only [State.PulseEnds, ← s.pulseFault_iff, ht, true_and]
    cases s.pulseFault <;> simp
  · rw [if_neg fun h => Bool.eq_false_iff.mp ht h.1.1]

/-- The promise of R191 on the actuator alone: an unlocked one has a relock armed or a pulse under way. -/
abbrev Actuator.Secured (a : Actuator) : Prop :=
  a.locked = false → a.rArmed = true ∨ a.pActive = true

/-- In strike mode a completion that leaves the lock UNLOCKED arms, and a relock that fires on an
unlocked block starts a pulse (R191, R192). -/
theorem tickAct_secured (hm : s.cur.autoRelock = true) (h : s.cur.act.Secured) :
    (tickAct s s.cur.act).Secured := by
  intro hunlocked
  cases hp : s.cur.act.pActive with
  | true =>
    by_cases hr : s.cur.act.pRem = 1#32
    · rw [tickAct_locked, if_pos ⟨hp, hr⟩] at hunlocked
      rw [tickAct_of_pulse_last hp hr]
      dsimp only
      rw [if_pos ⟨hm, hunlocked⟩]
      exact .inl rfl
    · rw [tickAct_of_pulse_running hp hr]
      exact .inr hp
  | false =>
    rw [tickAct_locked, if_neg fun h => Bool.eq_false_iff.mp hp h.1] at hunlocked
    have hr : s.cur.act.rArmed = true := (h hunlocked).resolve_right (Bool.eq_false_iff.mp hp)
    rw [tickAct_of_relock hp hr]
    split
    · rw [if_neg (Bool.eq_false_iff.mp hunlocked)]
      exact .inr rfl
    · exact .inl hr

theorem State.actNext_secured (hm : s.cur.autoRelock = true) (hkeep : s.clearsCtrl 1 = false)
    (h : s.cur.act.Secured) : s.actNext.Secured := by
  obtain ⟨a, hnext, hcases⟩ := s.actNext_cases
  rw [hnext, if_neg (Bool.eq_false_iff.mp hkeep)]
  rcases hcases with ⟨-, rfl⟩ | ⟨-, -, rfl⟩ | ⟨-, -, rfl⟩
  · exact fun _ => .inr rfl
  · exact tickAct_secured hm h
  · exact h

/-- A bit of CTRL that ends at 1 was not written as 0 in the cycle. -/
theorem State.clearsCtrl_of_ctrlNext_on {n : Nat} (hn : n < 8) (h : s.ctrlNext.getLsbD n = true) :
    s.clearsCtrl n = false := by
  unfold State.ctrlNext at h
  unfold State.clearsCtrl
  cases hw : s.written 1#6 with
  | none => rfl
  | some v => simpa [hw, getLsbD_ctrlStored v hn] using h

/-- Latch mode arms no relock (R200). -/
theorem State.actNext_rArmed_of_latch (hm : s.cur.autoRelock = false)
    (hr : s.cur.act.rArmed = false) : s.actNext.rArmed = false := by
  obtain ⟨a, hnext, hcases⟩ := s.actNext_cases
  have ha : a.rArmed = false := by
    rcases hcases with ⟨-, rfl⟩ | ⟨-, -, rfl⟩ | ⟨-, -, rfl⟩
    · rfl
    · exact tickAct_rArmed_of_latch hm hr
    · exact hr
  rw [hnext]
  split
  · rfl
  · exact ha

end

end Sys2Proof.Machine

namespace Sys2Proof.Proofs

open Sys2Proof.Machine

/-- Settles O48: a cycle that ends in strike mode cancels no relock, and the actuator's own work keeps the
promise. -/
theorem stepKeepsFailSecure : Obligations.StepKeepsFailSecure := by
  intro s t hm hsecure hstep
  rcases step_next_cases hstep with ⟨-, rfl⟩ | ⟨-, rfl⟩
  · exact fun _ => nofun
  · exact fun hstays =>
      State.actNext_secured hm (State.clearsCtrl_of_ctrlNext_on (by decide) hstays) (hsecure hm)

/-- Settles O34: the command word names the direction, and an accepted command is all the actuator does. -/
theorem actCycleAcceptsCommand : Obligations.ActCycleAcceptsCommand := by
  intro s dir hp hw
  have hc : s.command = some (if dir then .lock else .unlock) := by
    rw [State.command_of_written hw]
    cases dir <;> rfl
  have haccepts : s.accepts = true := s.accepts_iff.mpr ⟨by cases dir <;> simp [hc], hp⟩
  have hdir : (s.command == some .lock) = dir := by
    rw [hc]
    cases dir <;> rfl
  rw [exec_actCycle_of_accepts haccepts hdir, ← atLeastOne_eq_max]
  rfl

/-- Settles O35: a busy actuator accepts no command, and its tick either counts down or completes. -/
theorem actCycleRunsPulse : Obligations.ActCycleRunsPulse := by
  intro s ht hp seen locked ended cancel refused
  have hidle := State.accepts_of_pActive hp
  have hrefused : s.raised ||| commandEvents s.cur s.command = refused := by
    rw [State.commandEvents_of_not_accepts hidle]
  rw [exec_actCycle_of_tick hidle ht, hrefused]
  refine ⟨fun hr => ?running, fun hr => ?last⟩
  case running =>
    rw [tickAct_of_pulse_running hp hr, tickEvents_of_pulse_running hr, BitVec.or_zero]
    rfl
  case last =>
    rw [tickAct_of_pulse_last hp hr, tickEvents_of_pulse_last hp hr, ← atLeastOne_eq_max]
    rfl

/-- Settles O36: with no pulse the tick is the relock's, and RELOCK_FIRE is its last tick alone. -/
theorem actCycleRunsRelock : Obligations.ActCycleRunsRelock := by
  intro s fired relocked cancel refused
  have hfired : s.fireRelock = s.putNxt { s.nxt with act := relocked } := by
    simp only [relocked, ← atLeastOne_eq_max]
    rfl
  refine ⟨fun ht hp hr hlock hunlock => ?cycle, fun ht ha hr => ?fires, fun h => ?holds⟩
  case cycle =>
    have hnot : s.accepts = false := by
      rw [← Bool.not_eq_true, s.accepts_iff]
      tauto
    have hrefused : s.raised ||| commandEvents s.cur s.command = refused := by
      rw [State.commandEvents_of_not_pulse hlock hunlock]
    rw [exec_actCycle_of_tick hnot ht, hrefused, tickEvents_of_no_pulse hp, BitVec.or_zero,
      tickAct_of_relock hp hr]
    simp only [relocked, ← atLeastOne_eq_max]
    rfl
  case fires =>
    rw [exec_relockFire_of_fires ht ha hr, hfired]
    rfl
  case holds => exact exec_relockFire_of_not_fires h

/-- Settles O49: no part of a cycle but the completion of a pulse writes LOCKED. -/
theorem logicalStateChangesOnlyAtCompletion : Obligations.LogicalStateChangesOnlyAtCompletion := by
  intro s t hrst hstep
  obtain rfl := step_next_of_not_rst hrst hstep
  exact ⟨fun h => s.actNext_locked.trans (if_pos h), fun h => s.actNext_locked.trans (if_neg h)⟩

/-- Settles O50: only strike mode arms, and only a completed LOCK pulse locks. -/
theorem latchModeNeverArms : Obligations.LatchModeNeverArms := by
  intro s t hm hr hstep
  rcases step_next_cases hstep with ⟨hrst, rfl⟩ | ⟨-, rfl⟩
  · exact ⟨rfl, fun hno => absurd (hrst.symm.trans hno) (by decide)⟩
  · refine ⟨State.actNext_rArmed_of_latch hm hr, fun _ hunlocked hno => ?_⟩
    change s.actNext.locked = false
    rw [s.actNext_locked]
    split
    case isTrue hend => exact Bool.eq_false_iff.mpr fun hdir => hno ⟨hend.1, hend.2, hdir⟩
    case isFalse => exact hunlocked

/-- Settles O16: while not BUSY both rows start the pulse of their direction. -/
theorem commandAccepted : Obligations.CommandAccepted := by
  intro s hp
  have haccept : ∀ dir, s.tryPulse dir = s.acceptPulse dir := fun _ =>
    if_neg (Bool.eq_false_iff.mp hp)
  rw [← atLeastOne_eq_max]
  exact ⟨congrArg _ (haccept true), congrArg _ (haccept false)⟩

/-- Settles O17: while BUSY both rows raise CMD_REJ. -/
theorem commandRefused : Obligations.CommandRefused := by
  intro s hp
  have hrefuse : ∀ dir, s.tryPulse dir = s.raise .cmdRej := fun _ => if_pos hp
  exact ⟨congrArg _ (hrefuse true), congrArg _ (hrefuse false)⟩

/-- Settles O37: neither a cycle without a tick nor a tick of an idle actuator writes the actuator. -/
theorem actCycleHolds : Obligations.ActCycleHolds := by
  intro s hhold hnone cancel
  have hnot : s.accepts = false := by rwa [← Bool.not_eq_true, s.accepts_iff]
  rw [← State.commandEvents_of_not_accepts hnot]
  cases ht : s.inputs.tick with
  | false =>
    rw [exec_actCycle_of_no_tick hnot ht]
    rfl
  | true =>
    obtain ⟨hp, hr⟩ := hhold.resolve_left (by simp [ht])
    rw [exec_actCycle_of_tick hnot ht, tickAct_of_idle hp hr, tickEvents_of_no_pulse hp,
      BitVec.or_zero]
    rfl

end Sys2Proof.Proofs

/-! Proofs of the statements on the register accesses (spec/43_register_access.md): what each read answers,
what each write stores, and the instruction a step runs for its transaction. -/

namespace Sys2Proof

/-- A request that decodes is a transaction word, and decodes as that word (R84, R98). -/
theorem decode_bus_ok {r : BusReq} {i : Instr} (h : decode (.bus r) = .ok i) :
    ∃ w, r.toTxn = .ok w ∧ i = decodeTxn w := by
  rw [decode] at h
  cases hw : r.toTxn with
  | ok w =>
    rw [hw] at h
    cases h
    exact ⟨w, rfl, rfl⟩
  | error e =>
    rw [hw] at h
    cases h

end Sys2Proof

namespace Sys2Proof.Machine

/-! ### The STATUS word (R29, R30, R225) -/

theorem getLsbD_boolWord_shiftLeft (b : Bool) {k n : Nat} (hn : n < 32) :
    (boolWord b <<< k).getLsbD n = (decide (n = k) && b) := by
  have hbit : (boolWord b).getLsbD (n - k) = (decide (n - k = 0) && b) := by
    cases b <;> simp [boolWord, BitVec.getLsbD_one]
  rw [BitVec.getLsbD_shiftLeft, hbit]
  by_cases hlt : n < k
  · simp [hlt, show n ≠ k by omega]
  · have heq : n - k = 0 ↔ n = k := by omega
    simp [hn, hlt, heq]

/-- The event flags are bits 10:0 without bit 7. -/
theorem getLsbD_flagMask (n : Nat) : (0x77F#11).getLsbD n = decide (n < 11 ∧ n ≠ 7) := by
  by_cases hn : n < 11
  · have hmask : ∀ i < 11, (0x77F#11).getLsbD i = decide (i < 11 ∧ i ≠ 7) := by decide
    exact hmask n hn
  · rw [BitVec.getLsbD_of_ge _ _ (Nat.le_of_not_lt hn)]
    simp [hn]

/-- Bit by bit, STATUS is an event flag, a live bit, or reserved. -/
theorem Block.getLsbD_statusWord (b : Block) {n : Nat} (hn : n < 32) :
    b.statusWord.getLsbD n =
      if n < 11 ∧ n ≠ 7 then b.flags.getLsbD n
      else if n = 16 then b.act.locked
      else if n = 17 then b.act.pActive
      else if n = 18 then b.act.rArmed
      else if n = 19 then b.frameOpen
      else if n = 20 then b.sn0.state
      else if n = 21 then b.sn1.state
      else if n = 22 then b.sn2.state
      else false := by
  simp only [Block.statusWord, BitVec.getLsbD_or, BitVec.getLsbD_setWidth, BitVec.getLsbD_and,
    getLsbD_flagMask, getLsbD_boolWord_shiftLeft _ hn]
  by_cases hflag : n < 11 ∧ n ≠ 7
  · have hlive : ∀ k, 16 ≤ k → n ≠ k := by omega
    simp [hflag, hn, hlive]
  · simp only [hflag, decide_false, Bool.and_false, Bool.false_or, if_false]
    split_ifs <;> simp [*]

theorem Block.frameOpen_eq (b : Block) : b.frameOpen = decide (b.wd.count ≠ 0#8) := by
  rw [Bool.eq_iff_iff, decide_eq_true_iff, Block.frameOpen, bne_iff_ne]

/-! ### Clearing event flags (R224) -/

theorem getLsbD_clearMask (v : Word) (n : Nat) :
    (clearMask v).getLsbD n = (v.getLsbD n && decide (n < 11 ∧ n ≠ 7)) := by
  rw [clearMask, BitVec.getLsbD_and, BitVec.getLsbD_setWidth, getLsbD_flagMask]
  by_cases hn : n < 11 <;> simp [hn]

/-! ### The step (R242) -/

theorem State.fetchBus_of_decode {s : State} {r : BusReq} {i : Instr} (hb : s.inputs.bus = [r])
    (hi : decode (.bus r) = .ok i) : s.fetchBus = .ok (some i) := by
  obtain ⟨w, hw, rfl⟩ := decode_bus_ok hi
  simp [State.fetchBus, hb, hw]

theorem State.fetchBus_of_nil {s : State} (hb : s.inputs.bus = []) : s.fetchBus = .ok none := by
  simp [State.fetchBus, hb]

/-- A cycle that is no reset runs the instruction it fetches, if any, and the units. -/
theorem step_of_fetchBus {s : State} {i? : Option Instr} (hr : s.inputs.rst = false)
    (hf : s.fetchBus = .ok i?) : step s = s.normalCycle i? := by
  simp [step, State.runCycle, hr, hf]

end Sys2Proof.Machine

namespace Sys2Proof.Proofs

open Sys2Proof.Machine

/-- Settles O10: the answer is the STATUS word, whose bits are those of `Block.getLsbD_statusWord`. -/
theorem statusReadsItsFields : Obligations.StatusReadsItsFields := by
  refine ⟨fun s => ⟨s.cur.statusWord, rfl, fun n hn => ?_⟩, rfl⟩
  rw [s.cur.getLsbD_statusWord hn, s.cur.frameOpen_eq]

/-- Settles O14: the fields of the CTRL write, each stop guarded by its own bit. -/
theorem ctrlWrite : Obligations.CtrlWrite := by
  intro s v
  have hfields : exec (.wrCtrl v) s = .next (s.putNxt (s.nxt.writeCtrl v)) := rfl
  rw [hfields, Block.writeCtrl_fields, ctrlStored_eq]
  rfl

/-- Settles O15: the flags end masked by the complement of the clear mask. -/
theorem statusWriteClears : Obligations.StatusWriteClears := by
  have hwrite : ∀ (s : State) (v : Word), exec (.wrStatus v) s =
      .next { s with nxt := { s.nxt with flags := s.cur.flags &&& ~~~(clearMask v) } } :=
    fun _ _ => rfl
  refine ⟨fun s v => ⟨_, hwrite s v, fun n hn => ?bits⟩, fun s => ?zero, fun s => ?ones⟩
  case bits =>
    rw [BitVec.getLsbD_and, BitVec.getLsbD_not, getLsbD_clearMask]
    simp [hn]
  case zero =>
    have hnone : clearMask 0#32 = 0#11 := by decide
    rw [hwrite, hnone, and_not_zero]
  case ones =>
    have hall : ~~~(clearMask 0xFFFFFFFF#32) = 0x080#11 := by decide
    rw [hwrite, hall]

/-- Settles O3: the transaction fetched is the one decoded, and the units follow it in the cycle. -/
theorem stepRunsDecodedInstruction : Obligations.StepRunsDecodedInstruction := by
  refine ⟨fun s r i hr hb hi _ => ?request, fun s hr hb => ?none⟩
  case request =>
    rw [step_of_fetchBus hr (State.fetchBus_of_decode hb hi)]
    change commitAll (runAll (i :: unitOps) s.beginCycle) = _
    rw [runAll]
    cases exec i s.beginCycle <;> rfl
  case none => exact step_of_fetchBus hr (State.fetchBus_of_nil hb)

/-- Settles O9: each row answers RegRead of its index (R220). -/
theorem namedReads : Obligations.NamedReads := by
  intro s
  have hread (i : RegIndex) := exec_readRow s i
  exact ⟨hread 0#6, hread 1#6, hread 3#6, hread 4#6, hread 5#6, hread 6#6, hread 7#6, hread 8#6,
    hread 9#6, hread 10#6, hread 12#6, hread 13#6, hread 14#6, hread 15#6, hread 16#6, hread 17#6,
    hread 18#6, hread 19#6⟩

/-- Settles O13: each row has the write effect of its index. -/
theorem configWrites : Obligations.ConfigWrites := by
  intro s v
  have hwrite (n : Nat) (hn : n < 64) := exec_writeRow s n hn v
  exact ⟨hwrite 3 (by decide), hwrite 5 (by decide), hwrite 6 (by decide), hwrite 7 (by decide),
    hwrite 8 (by decide), hwrite 9 (by decide), hwrite 10 (by decide)⟩

/-- Settles O19: the write of CMD and the row its word decodes to are one command (R229). -/
theorem wrCmdIsItsCommand : Obligations.WrCmdIsItsCommand :=
  ⟨fun _ => rfl, fun s w => ⟨(exec_decodeCmd w s).symm, s.doCommand (cmdOp w), rfl⟩⟩

end Sys2Proof.Proofs

/-! Proofs of the statements on events and on cycles that compete or hold (spec/60_exceptions.md): what the
bus can present, the causes of the events, stops and commands against a tick, and cycles without a tick. -/

namespace Sys2Proof

/-! ### What the bus presents (R61, R64 to R66) -/

theorem toTxn_load_ok {o : BitVec 8} (h : Machine.AlignedOffset o) :
    ∃ w, BusReq.toTxn (.load o 4) = .ok w := by
  simp [BusReq.toTxn, h]

theorem toTxn_store_ok {o : BitVec 8} {l : List Byte} (hl : l.length = 4)
    (h : Machine.AlignedOffset o) : ∃ w, BusReq.toTxn (.store o l) = .ok w := by
  obtain ⟨b0, b1, b2, b3, rfl⟩ := List.length_eq_four.mp hl
  exact ⟨_, if_neg (not_not_intro h)⟩

namespace Machine

/-- Every cycle presents what the port can express, or has one of the three causes of a refusal. -/
theorem bus_cases (p : Inputs) :
    AcceptedCycle p ∨ WrongWidth p ∨ MisalignedAccess p ∨ 2 ≤ p.bus.length := by
  match h : p.bus with
  | [] => exact .inl (.inl h)
  | [.txn w] => exact .inl (.inr (.inl ⟨w, h⟩))
  | [.load o n] =>
    by_cases hn : n = 4
    · subst hn
      by_cases ho : AlignedOffset o
      · exact .inl (.inr (.inr (.inl ⟨o, h, ho⟩)))
      · exact .inr (.inr (.inl (.inl ⟨o, h, ho⟩)))
    · exact .inr (.inl (.inl ⟨o, n, h, hn⟩))
  | [.store o l] =>
    by_cases hl : l.length = 4
    · by_cases ho : AlignedOffset o
      · exact .inl (.inr (.inr (.inr ⟨o, l, h, hl, ho⟩)))
      · exact .inr (.inr (.inl (.inr ⟨o, l, h, hl, ho⟩)))
    · exact .inr (.inl (.inr ⟨o, l, h, hl⟩))
  | _ :: _ :: _ => exact .inr (.inr (.inr (by simp)))

theorem busTxn_congr {p q : Inputs} (h : q.bus = p.bus) : busTxn q = busTxn p := by
  rw [busTxn, busTxn, h]

theorem State.fetchBus_of_toTxn {s : State} {r : BusReq} (hb : s.inputs.bus = [r])
    (h : ∃ w, r.toTxn = .ok w) : ∃ i?, s.fetchBus = .ok i? := by
  obtain ⟨w, hw⟩ := h
  exact ⟨some (decodeTxn w), by simp [State.fetchBus, hb, hw]⟩

theorem State.fetchBus_of_accepted {s : State} (h : AcceptedCycle s.inputs) :
    ∃ i?, s.fetchBus = .ok i? := by
  rcases h with hnil | ⟨w, hb⟩ | ⟨o, hb, ho⟩ | ⟨o, l, hb, hl, ho⟩
  · exact ⟨none, State.fetchBus_of_nil hnil⟩
  · exact State.fetchBus_of_toTxn hb ⟨w, rfl⟩
  · exact State.fetchBus_of_toTxn hb (toTxn_load_ok ho)
  · exact State.fetchBus_of_toTxn hb (toTxn_store_ok hl ho)

section

variable {s : State}

theorem step_of_accepted (hr : s.inputs.rst = false) (h : AcceptedCycle s.inputs) :
    step s = .next s.nextState := by
  obtain ⟨i?, hf⟩ := State.fetchBus_of_accepted h
  exact step_normal hr hf

theorem step_of_wrongWidth (hr : s.inputs.rst = false) (h : WrongWidth s.inputs) :
    step s = .refused .accessWidth := by
  rcases h with ⟨o, n, hb, hn⟩ | ⟨o, l, hb, hl⟩
  · exact step_refused_of_toTxn hr hb (toTxn_load_width hn)
  · exact step_refused_of_toTxn hr hb (toTxn_store_width hl)

theorem step_of_misaligned (hr : s.inputs.rst = false) (h : MisalignedAccess s.inputs) :
    step s = .refused .misaligned := by
  rcases h with ⟨o, hb, ho⟩ | ⟨o, l, hb, hl, ho⟩
  · exact step_refused_of_toTxn hr hb (toTxn_load_misaligned ho)
  · exact step_refused_of_toTxn hr hb (toTxn_store_misaligned hl ho)

end

/-- All a step can answer, each answer with its cause. -/
theorem step_cases (s : State) :
    (∃ t, step s = .next t) ∨
      s.inputs.rst = false ∧
        (WrongWidth s.inputs ∧ step s = .refused .accessWidth ∨
          MisalignedAccess s.inputs ∧ step s = .refused .misaligned ∨
          2 ≤ s.inputs.bus.length ∧ step s = .refused .busConflict) := by
  cases hr : s.inputs.rst with
  | true => exact .inl ⟨_, step_reset hr⟩
  | false =>
    rcases bus_cases s.inputs with h | h | h | h
    · exact .inl ⟨_, step_of_accepted hr h⟩
    · exact .inr ⟨rfl, .inl ⟨h, step_of_wrongWidth hr h⟩⟩
    · exact .inr ⟨rfl, .inr (.inl ⟨h, step_of_misaligned hr h⟩)⟩
    · exact .inr ⟨rfl, .inr (.inr ⟨h, step_refused_of_conflict hr h⟩)⟩

/-! ### One register is written in a cycle (R61) -/

theorem State.written_of_ne {s : State} {i j : RegIndex} {v : Word} (h : s.written i = some v)
    (hne : i ≠ j) : s.written j = none := by
  cases hb : busTxn s.inputs with
  | none => simp [State.written, hb]
  | some w =>
    rw [State.written_of hb] at h ⊢
    by_cases hi : txnIdx w = i
    · simp [hi, hne]
    · simp [hi] at h

theorem State.written_of_clearsCtrl {s : State} {n : Nat} (h : s.clearsCtrl n = true) :
    ∃ v, s.written 1#6 = some v ∧ v.getLsbD n = false := by
  unfold State.clearsCtrl at h
  cases hw : s.written 1#6 with
  | none => simp [hw] at h
  | some v => exact ⟨v, rfl, by simpa [hw] using h⟩

theorem State.clearsCtrl_of_written_ne {s : State} {i : RegIndex} {v : Word}
    (h : s.written i = some v) (hi : i ≠ 1#6) (n : Nat) : s.clearsCtrl n = false := by
  rw [State.clearsCtrl, State.written_of_ne h hi]

/-- A bit of CTRL that is written as 0 ends at 0 (R223). -/
theorem State.ctrlNext_of_clearsCtrl {s : State} {n : Nat} (hn : n < 8)
    (h : s.clearsCtrl n = true) : s.ctrlNext.getLsbD n = false := by
  obtain ⟨v, hw, hv⟩ := State.written_of_clearsCtrl h
  rw [State.ctrlNext, hw, getLsbD_ctrlStored v hn, hv]

/-! ### Which event a unit raises (R261) -/

/-- The event of a STATUS bit; bit 7 and the bits above 10 are no event's. -/
def Event.ofCode : Nat → Event
  | 0 => .cardValid
  | 1 => .cardOvr
  | 2 => .errValid
  | 3 => .errOvr
  | 4 => .lockDone
  | 5 => .lockErr
  | 8 => .sensChg .door
  | 9 => .sensChg .proximity
  | 10 => .sensChg .exitButton
  | _ => .cmdRej

theorem Event.ofCode_code (e : Event) : Event.ofCode e.code = e := by
  cases e with
  | sensChg k => cases k <;> rfl
  | _ => rfl

theorem Event.code_injective : Function.Injective Event.code :=
  Function.LeftInverse.injective Event.ofCode_code

theorem Event.getLsbD_bit_code (e f : Event) : f.bit.getLsbD e.code = true ↔ e = f := by
  rw [Event.getLsbD_bit, decide_eq_true_iff, Event.code_injective.eq_iff]

/-- A vector with one event's bit, or none. -/
theorem getLsbD_ite_bit (c : Prop) [Decidable c] (e f : Event) :
    (if c then f.bit else 0#11).getLsbD e.code = true ↔ c ∧ e = f := by
  split
  case isTrue h => rw [Event.getLsbD_bit_code, and_iff_right h]
  case isFalse h => simp [h]

/-- The event of a pulse's completion (R189, R190). -/
def State.endEvent (s : State) : Event := if s.pulseFault then .lockErr else .lockDone

theorem State.commandEvents_eq (s : State) :
    commandEvents s.cur s.command = if s.CommandRefused then Event.cmdRej.bit else 0#11 := by
  unfold State.CommandRefused
  cases s.command with
  | none => rfl
  | some op => cases op <;> simp [commandEvents]

theorem tickEvents_eq (s : State) :
    tickEvents s =
      if s.cur.act.pActive = true ∧ s.cur.act.pRem = 1#32 then s.endEvent.bit else 0#11 := by
  simp only [tickEvents, sub_one_eq_zero_iff, State.endEvent]

/-- A cycle that accepts a command has no pulse to end. -/
theorem State.tickEvents_in_cycle (s : State) :
    (if s.accepts || !s.inputs.tick then 0#11 else tickEvents s) =
      if s.PulseEnds then s.endEvent.bit else 0#11 := by
  rw [tickEvents_eq]
  unfold State.PulseEnds
  cases ht : s.inputs.tick with
  | false => simp
  | true =>
    cases hp : s.cur.act.pActive with
    | false => simp
    | true => simp [State.accepts_of_pActive hp]

/-- Every event of a cycle is raised by the decoder, a channel, a completion or a refused command. -/
theorem State.eventsNext_iff (s : State) (e : Event) :
    s.eventsNext.getLsbD e.code = true ↔
      (s.ClosesFrame ∧ e = closeEvent s.cur s.cur.wd.count) ∨
        (∃ k, s.snPublishes k = true ∧ e = .sensChg k) ∨
        (s.CommandRefused ∧ e = .cmdRej) ∨ (s.PulseEnds ∧ e = s.endEvent) := by
  have hchan : (∃ k, s.snPublishes k = true ∧ e = .sensChg k) ↔
      (s.snPublishes .door = true ∧ e = .sensChg .door) ∨
        (s.snPublishes .proximity = true ∧ e = .sensChg .proximity) ∨
        (s.snPublishes .exitButton = true ∧ e = .sensChg .exitButton) := by
    constructor
    · rintro ⟨k, hk⟩
      cases k <;> simp [hk]
    · rintro (h | h | h) <;> exact ⟨_, h⟩
  rw [hchan, ← s.wdCloses_iff, State.eventsNext, State.actEvents, s.tickEvents_in_cycle,
    s.commandEvents_eq]
  simp only [State.wdEvents, State.snEvents, BitVec.getLsbD_or, Bool.or_eq_true, getLsbD_ite_bit,
    or_assoc]

/-! ### The causes of the events (R261) -/

/-- A tick's evaluation is due in the terms of R114 and R115. -/
theorem Channel.due_age_iff (c : Channel) (level : Bool) (debounce : Word) :
    (c.age level).due debounce = true ↔
      if level ≠ c.prev then debounce = 0#32
      else c.pend = true ∧ debounce.toNat ≤ min (c.cnt.toNat + 1) (2 ^ 32 - 1) := by
  rw [Channel.due_iff, Channel.age_pend, Channel.toNat_age_cnt]
  by_cases hedge : level = c.prev
  · cases hpend : c.pend <;> simp [hedge]
  · have hzero : debounce.toNat ≤ 0 ↔ debounce = 0#32 := by bv_omega
    simpa [hedge] using hzero

theorem State.snPublishes_iff (s : State) (k : Chan) :
    s.snPublishes k = true ↔ s.Causes (.sensChg k) := by
  simp only [State.snPublishes, Channel.publishes, State.Causes, State.Evaluates, Bool.and_eq_true,
    s.snRuns_iff, Channel.due_age_iff, bne_iff_ne, and_assoc]

/-- A close raises one of the decoder's four events: by the length of the frame, and by whether the last
report of its kind is still held (R154, R155). -/
theorem closeEvent_iff (b : Block) (len : FrameCount) (e : Event) :
    e = closeEvent b len ↔
      (e = .cardValid ∧ SupportedLength len ∧ b.flag .cardValid = false) ∨
        (e = .cardOvr ∧ SupportedLength len ∧ b.flag .cardValid = true) ∨
        (e = .errValid ∧ ¬SupportedLength len ∧ b.flag .errValid = false) ∨
        (e = .errOvr ∧ ¬SupportedLength len ∧ b.flag .errValid = true) := by
  rw [closeEvent, ← supported_iff]
  cases supported len with
  | true => cases b.flag .cardValid <;> simp
  | false => cases b.flag .errValid <;> simp

theorem State.endEvent_iff (s : State) (e : Event) :
    e = s.endEvent ↔ (e = .lockDone ∧ ¬s.FaultSeen) ∨ (e = .lockErr ∧ s.FaultSeen) := by
  rw [State.endEvent, ← s.pulseFault_iff]
  cases s.pulseFault <;> simp

/-- The units raise exactly the events whose cause the table of R261 names. -/
theorem State.eventsNext_iff_causes (s : State) (e : Event) :
    s.eventsNext.getLsbD e.code = true ↔ s.Causes e := by
  rw [s.eventsNext_iff, closeEvent_iff, s.endEvent_iff]
  cases e with
  | sensChg k => simp [s.snPublishes_iff]
  | _ => simp [State.Causes]

theorem State.nextBlock_flag_iff (s : State) (e : Event) :
    s.nextBlock.flag e = true ↔ s.Causes e ∨ (s.cur.flag e = true ∧ ¬s.Acknowledges e) := by
  rw [s.nextBlock_flag, Bool.or_eq_true, Bool.and_eq_true, Bool.not_eq_true', ← Bool.not_eq_true,
    s.eventsNext_iff_causes, s.cleared_iff, or_comm]

/-- A flag whose cause does not occur is kept in a cycle that writes another register than STATUS. -/
theorem State.nextBlock_flag_kept {s : State} {e : Event} {i : RegIndex} {v : Word}
    (hw : s.written i = some v) (hi : i ≠ 2#6) (hc : ¬s.Causes e) :
    s.nextBlock.flag e = s.cur.flag e := by
  have hack : ¬s.Acknowledges e := by simp [State.Acknowledges, State.written_of_ne hw hi]
  rw [Bool.eq_iff_iff, s.nextBlock_flag_iff]
  simp [hc, hack]

/-- Every event of the decoder has a closed frame for its cause. -/
theorem State.closesFrame_of_causes {s : State} {e : Event} (he : e ∈ decoderEvents)
    (h : s.Causes e) : s.ClosesFrame := by
  simp only [decoderEvents, List.mem_cons, List.not_mem_nil, or_false] at he
  rcases he with rfl | rfl | rfl | rfl <;> exact h.1

/-- Without a tick the only cause of an event is a refused command (R272). -/
theorem State.causes_of_no_tick {s : State} (ht : s.inputs.tick = false) (e : Event) :
    s.Causes e ↔ e = .cmdRej ∧ s.CommandRefused := by
  cases e <;> simp [State.Causes, ht]

/-! ### The holding registers without a close -/

theorem State.heldNext_of_not_closes {s : State} (h : ¬s.ClosesFrame) : s.heldNext = s.cur := by
  rw [← s.wdCloses_iff] at h
  exact if_neg h

/-- A cycle that closes no frame keeps all of CARD_* and ERR_*. -/
theorem State.nextBlock_held {s : State} (h : ¬s.ClosesFrame) :
    s.nextBlock.cardLo = s.cur.cardLo ∧ s.nextBlock.cardHi = s.cur.cardHi ∧
      s.nextBlock.cardInfo = s.cur.cardInfo ∧ s.nextBlock.cardNum = s.cur.cardNum ∧
      s.nextBlock.errLo = s.cur.errLo ∧ s.nextBlock.errHi = s.cur.errHi ∧
      s.nextBlock.errLen = s.cur.errLen := by
  simp only [State.nextBlock, State.heldNext_of_not_closes h, and_self]

/-! ### Commands and the actuator's next state -/

theorem toNat_atLeastOne (x : Word) : (atLeastOne x).toNat = max x.toNat 1 := by
  have hx := x.isLt
  rw [atLeastOne_eq_max, BitVec.toNat_ofNat, Nat.mod_eq_of_lt (by omega)]

/-- The command LOCK or UNLOCK, by the word written to CMD (R87). -/
theorem State.command_of_dir {s : State} {dir : Bool}
    (h : s.written 4#6 = some (if dir then 1#32 else 2#32)) :
    s.command = some (if dir then .lock else .unlock) := by
  rw [State.command_of_written h]
  cases dir <;> rfl

theorem State.commandRefused_of_dir {s : State} {dir : Bool}
    (h : s.written 4#6 = some (if dir then 1#32 else 2#32)) :
    s.CommandRefused ↔ s.cur.act.pActive = true := by
  rw [State.CommandRefused, State.command_of_dir h]
  cases dir <;> simp

theorem State.accepts_of_dir {s : State} {dir : Bool} (hp : s.cur.act.pActive = false)
    (h : s.written 4#6 = some (if dir then 1#32 else 2#32)) : s.accepts = true := by
  rw [s.accepts_iff, State.command_of_dir h]
  cases dir <;> simp [hp]

theorem cmdOp_eq_lock_iff (v : Word) : cmdOp v = .lock ↔ v = 1#32 := by
  constructor
  · unfold cmdOp
    split_ifs <;> simp_all
  · rintro rfl
    rfl

theorem cmdOp_eq_unlock_iff (v : Word) : cmdOp v = .unlock ↔ v = 2#32 := by
  constructor
  · unfold cmdOp
    split_ifs <;> simp_all
  · rintro rfl
    rfl

/-- A cycle that does not write LOCK or UNLOCK to CMD, or whose actuator is BUSY, accepts nothing. -/
theorem State.accepts_eq_false {s : State}
    (h : s.cur.act.pActive = true ∨ (s.written 4#6 ≠ some 1#32 ∧ s.written 4#6 ≠ some 2#32)) :
    s.accepts = false := by
  rw [← Bool.not_eq_true, s.accepts_iff, State.command]
  cases hw : s.written 4#6 with
  | none => simp
  | some v =>
    simp only [hw, ne_eq, Option.some.injEq] at h
    simp only [Option.map_some, Option.some.injEq, cmdOp_eq_lock_iff, cmdOp_eq_unlock_iff]
    rcases h with hp | ⟨h1, h2⟩
    · simp [hp]
    · simp [h1, h2]

/-- An accepted command is all that the actuator does in its cycle, a tick or not (R195). -/
theorem State.actNext_of_dir {s : State} {dir : Bool} (hp : s.cur.act.pActive = false)
    (h : s.written 4#6 = some (if dir then 1#32 else 2#32)) :
    s.actNext = (s.cur.act.startPulse dir s.cur.pulse).disarm := by
  have haccepts := State.accepts_of_dir hp h
  have hdir : (s.command == some .lock) = dir := by
    rw [State.command_of_dir h]
    cases dir <;> rfl
  obtain ⟨a, hnext, hcases⟩ := s.actNext_cases
  rw [hnext, State.clearsCtrl_of_written_ne h (by decide)]
  rcases hcases with ⟨-, rfl⟩ | ⟨hno, -⟩ | ⟨hno, -⟩
  · rw [hdir]
    rfl
  · exact absurd (haccepts.symm.trans hno) (by decide)
  · exact absurd (haccepts.symm.trans hno) (by decide)

/-- A completing pulse ends whatever else the cycle does (R187). -/
theorem State.actNext_pActive_of_pulseEnds {s : State} (h : s.PulseEnds) :
    s.actNext.pActive = false := by
  obtain ⟨ht, hp, hr⟩ := h
  obtain ⟨a, hnext, hcases⟩ := s.actNext_cases
  have ha : a.pActive = false := by
    rcases hcases with ⟨haccepts, -⟩ | ⟨-, -, rfl⟩ | ⟨-, hno, -⟩
    · exact absurd ((State.accepts_of_pActive hp).symm.trans haccepts) (by decide)
    · rw [tickAct_of_pulse_last hp hr]
      dsimp only
      split <;> rfl
    · exact absurd (ht.symm.trans hno) (by decide)
  rw [hnext]
  split <;> exact ha

/-- The cancel of a CTRL write comes after all else the cycle does to the relock (R196, R201). -/
theorem State.actNext_of_cancel {s : State} (h : s.clearsCtrl 1 = true) :
    s.actNext.rArmed = false ∧ s.actNext.rRem = 0#32 := by
  obtain ⟨a, hnext, -⟩ := s.actNext_cases
  rw [hnext, if_pos h]
  exact ⟨rfl, rfl⟩

/-! ### Cycles without a tick (R271, R272) -/

section

variable {s : State} (ht : s.inputs.tick = false)

include ht

theorem State.wdNext_of_no_tick :
    s.wdNext = if s.clearsCtrl 0 then Decoder.stopped else s.cur.wd := by
  simp [State.wdNext, State.wdRuns, ht]

theorem State.snNext_of_no_tick (k : Chan) :
    s.snNext k = if s.clearsCtrl (2 + k.num) then (s.cur.sn k).stop else s.cur.sn k := by
  simp [State.snNext, State.snRuns, sensEnBit, ht]

theorem State.heldNext_of_no_tick : s.heldNext = s.cur :=
  State.heldNext_of_not_closes fun h => Bool.eq_false_iff.mp ht h.1

theorem State.actNext_of_no_tick :
    s.actNext =
      if s.clearsCtrl 1 then (commandAct s.cur s.cur.act s.command).disarm
      else commandAct s.cur s.cur.act s.command := by
  simp [State.actNext, State.actFormed, ht]

theorem State.eventsNext_of_no_tick : s.eventsNext = commandEvents s.cur s.command := by
  simp [State.eventsNext, State.wdEvents, State.wdCloses, State.wdRuns, State.snEvents,
    State.snPublishes, State.snRuns, State.actEvents, ht]

end

/-- Two cycles without a tick that start at one block and write the same end at one block: the pins do
not matter. -/
theorem State.nextBlock_congr_of_no_tick {s u : State} (hs : s.inputs.tick = false)
    (hu : u.inputs.tick = false) (hcur : u.cur = s.cur) (hw : ∀ i, u.written i = s.written i) :
    u.nextBlock = s.nextBlock := by
  have hclr : ∀ n, u.clearsCtrl n = s.clearsCtrl n := fun n => by
    rw [State.clearsCtrl, State.clearsCtrl, hw]
  have hcmd : u.command = s.command := by rw [State.command, State.command, hw]
  have hcleared : u.cleared = s.cleared := by rw [State.cleared, State.cleared, hw]
  simp only [State.nextBlock, State.ctrlNext_eq, State.irqEnNext_eq,
    State.wdNext_of_no_tick hs, State.wdNext_of_no_tick hu,
    State.snNext_of_no_tick hs, State.snNext_of_no_tick hu, State.heldNext_of_no_tick hs,
    State.heldNext_of_no_tick hu, State.actNext_of_no_tick hs, State.actNext_of_no_tick hu,
    State.eventsNext_of_no_tick hs, State.eventsNext_of_no_tick hu, hcur, hw, hclr, hcmd, hcleared]

end Machine

end Sys2Proof

namespace Sys2Proof.Proofs

open Sys2Proof.Machine

/-- Settles O38: the events the units raise are those with a cause, and set wins over clear. -/
theorem eventFlagRule : Obligations.EventFlagRule := by
  intro s t hr hstep
  obtain rfl := step_next_of_not_rst hr hstep
  exact s.nextBlock_flag_iff

/-- Settles O42: each unit's next state without a tick is a function of the block and of what the cycle
writes. -/
theorem timeStopsWithoutTicks : Obligations.TimeStopsWithoutTicks := by
  refine ⟨?silent, ?pins, ?parts⟩
  case silent =>
    intro s t hr ht hb hstep
    obtain rfl := step_next_of_not_rst hr hstep
    exact State.nextBlock_of_idle ht
      (s.written_none fun w hw => by simp [busTxn_nil hb] at hw)
  case pins =>
    intro s t u p q ps qs hstim hpr hpt hqr hqt hbus hst hsu
    have hp := State.inputs_of_stim hstim
    have hq : ({ s with stim := q :: qs } : State).inputs = q := State.inputs_of_stim rfl
    have htxn : busTxn ({ s with stim := q :: qs } : State).inputs = busTxn s.inputs :=
      busTxn_congr (by rw [hp, hq, hbus])
    obtain rfl := step_next_of_not_rst (by rw [hp, hpr]) hst
    obtain rfl := step_next_of_not_rst (by rw [hq, hqr]) hsu
    refine ⟨Eq.symm ?block, ?rdata⟩
    case block =>
      refine State.nextBlock_congr_of_no_tick (s := s) (u := { s with stim := q :: qs })
        (by rw [hp, hpt]) (by rw [hq, hqt]) rfl fun i => ?_
      rw [State.written, State.written, htxn]
    case rdata =>
      change s.rdataNext = State.rdataNext _
      rw [State.rdataNext, State.rdataNext, htxn]
  case parts =>
    intro s t hr ht hstep
    obtain rfl := step_next_of_not_rst hr hstep
    have hclose : ¬s.ClosesFrame := fun h => Bool.eq_false_iff.mp ht h.1
    refine ⟨State.wdNext_of_no_tick ht, fun k => ?channel, State.nextBlock_held hclose,
      fun dir hp hw => ?accepted,
      fun hidle => ?holds, fun e => ?flags, s.ctrlNext_eq, s.irqEnNext_eq, rfl, rfl, rfl, rfl, rfl, rfl⟩
    case channel => exact (s.nextBlock_sn k).trans (State.snNext_of_no_tick ht k)
    case accepted =>
      rw [← atLeastOne_eq_max]
      exact State.actNext_of_dir hp hw
    case holds =>
      have hact := State.actNext_of_no_tick ht
      rw [s.commandAct_eq, State.accepts_eq_false hidle] at hact
      exact hact
    case flags =>
      rw [← State.causes_of_no_tick ht]
      exact s.nextBlock_flag_iff e

/-- Settles O41: in (3) the accepted command is all the actuator does, in (4) the busy actuator refuses and
its tick completes the pulse, and in (5) the cancel comes last. -/
theorem actuatorPriorities : Obligations.ActuatorPriorities := by
  intro s t hr hstep
  obtain rfl := step_next_of_not_rst hr hstep
  refine ⟨fun dir hp hw => ?accepted, fun dir hend hw => ?completing, fun hclr => ?cancel⟩
  case accepted =>
    change s.actNext.pActive = _ ∧ s.actNext.pDir = _ ∧ s.actNext.rArmed = _ ∧
      s.actNext.pRem.toNat = _ ∧ s.actNext.locked = _ ∧ s.nextBlock.flag _ = _
    have hnot : ¬s.Causes .cmdRej :=
      (State.commandRefused_of_dir hw).not.mpr (Bool.eq_false_iff.mp hp)
    rw [State.actNext_of_dir hp hw]
    exact ⟨rfl, rfl, rfl, toNat_atLeastOne _, rfl, State.nextBlock_flag_kept hw (by decide) hnot⟩
  case completing =>
    have hset : ∀ e, s.Causes e → s.nextBlock.flag e = true := fun e hc =>
      (s.nextBlock_flag_iff e).mpr (.inl hc)
    exact ⟨hset .cmdRej ((State.commandRefused_of_dir hw).mpr hend.2.1),
      State.actNext_pActive_of_pulseEnds hend,
      fun hseen => ⟨hset .lockErr ⟨hend, hseen⟩, s.actNext_locked.trans (if_neg fun h => h.2 hseen)⟩,
      fun hno => ⟨hset .lockDone ⟨hend, hno⟩, s.actNext_locked.trans (if_pos ⟨hend, hno⟩)⟩⟩
  case cancel =>
    obtain ⟨harmed, hrem⟩ := State.actNext_of_cancel hclr
    exact ⟨harmed, hrem, State.ctrlNext_of_clearsCtrl (by decide) hclr⟩

/-- Settles O40: a unit that the cycle stops runs no tick, so that the stop is all that shows of it. -/
theorem stopWins : Obligations.StopWins := by
  intro s t hr hstep
  obtain rfl := step_next_of_not_rst hr hstep
  refine ⟨fun hclr => ?decoder, fun k => ⟨fun hclr => ⟨?stopped, ?flag⟩, fun hruns hkeep => ?holds⟩⟩
  case decoder =>
    obtain ⟨v, hw, -⟩ := State.written_of_clearsCtrl hclr
    have hclose : ¬s.ClosesFrame := fun ⟨_, _, hno, _⟩ => Bool.eq_false_iff.mp hno hclr
    obtain ⟨hlo, hhi, hinfo, hnum, herrLo, herrHi, herrLen⟩ := State.nextBlock_held hclose
    exact ⟨if_pos hclr, hlo, hhi, hinfo, hnum, herrLo, herrHi, herrLen,
      fun e he => State.nextBlock_flag_kept hw (by decide) fun hc =>
        hclose (State.closesFrame_of_causes he hc)⟩
  case stopped => exact (s.nextBlock_sn k).trans (if_pos hclr)
  case flag =>
    obtain ⟨v, hw, -⟩ := State.written_of_clearsCtrl hclr
    exact State.nextBlock_flag_kept hw (by decide) fun ⟨⟨⟨_, _, hno⟩, _⟩, _⟩ =>
      Bool.eq_false_iff.mp hno hclr
  case holds =>
    rw [← s.snRuns_iff] at hruns
    exact (s.nextBlock_sn k).trans ((if_neg (Bool.eq_false_iff.mp hkeep)).trans (if_neg hruns))

/-- Settles O6: a refusal is the answer to its own cause, and every other cycle has a next state. -/
theorem stepCompletes : Obligations.StepCompletes := by
  refine ⟨fun s h => ?completes, fun s => ?answers, fun s => ?causes⟩
  case completes =>
    cases hr : s.inputs.rst with
    | true => exact ⟨_, step_reset hr⟩
    | false => exact ⟨_, step_of_accepted hr (h.resolve_left (Bool.eq_false_iff.mp hr))⟩
  case answers =>
    rcases step_cases s with hnext | ⟨-, ⟨-, h⟩ | ⟨-, h⟩ | ⟨-, h⟩⟩
    · exact .inl hnext
    · exact .inr (.inl h)
    · exact .inr (.inr (.inl h))
    · exact .inr (.inr (.inr h))
  case causes =>
    rcases step_cases s with ⟨t, h⟩ | ⟨hr, ⟨hc, h⟩ | ⟨hc, h⟩ | ⟨hc, h⟩⟩
    · rw [h]
      exact ⟨nofun, nofun, nofun⟩
    · rw [h]
      exact ⟨fun _ => ⟨hr, hc⟩, nofun, nofun⟩
    · rw [h]
      exact ⟨nofun, fun _ => ⟨hr, hc⟩, nofun⟩
    · rw [h]
      exact ⟨nofun, nofun, fun _ => ⟨hr, hc⟩⟩

end Sys2Proof.Proofs

/-! Proofs of the statements on reset and on the time a command takes (spec/70_reset_and_hazards.md): the
cycle with RST = 1, and an UNLOCK in strike mode from its write to the end of its relock pulse. -/

namespace Sys2Proof.Machine

/-! ### Countdowns (R22) -/

/-- The countdown of a duration starts at its ticks (R183, R191). -/
theorem ticksOf_eq (x : Word) : ticksOf x = (atLeastOne x).toNat := (toNat_atLeastOne x).symm

/-- What is expected after the first cycles of a longer expectation. -/
theorem State.Expects.drop {s t : State} {m n : Nat} {c : Inputs → Prop} (h : s.Expects (m + n) c)
    (ht : t.stim = s.stim.drop m) : t.Expects n c := by
  obtain ⟨hlen, hall⟩ := h
  refine ⟨by rw [ht, List.length_drop]; omega, fun p hp => hall p ?_⟩
  rw [List.take_add]
  rw [ht] at hp
  exact List.mem_append_right _ hp

/-- A countdown from `x`, one less with each expected cycle, whose cycle at 1 leads to `Q`. -/
theorem runCycles_countdown {c : Inputs → Prop} {P : Word → State → Prop} {Q : State → Prop}
    {x : Word} {s : State} (hexp : s.Expects x.toNat c) (hinit : P x s) (hx : x ≠ 0#32)
    (hcount : ∀ y t, y ≠ 1#32 → c t.inputs → P y t → ∃ u, step t = .next u ∧ P (y - 1#32) u)
    (hlast : ∀ t, c t.inputs → P 1#32 t → ∃ u, step t = .next u ∧ Q u) :
    (∀ k < x.toNat, ∃ t, runCycles k s = .next t ∧ P (x - BitVec.ofNat 32 k) t) ∧
      ∃ t, runCycles x.toNat s = .next t ∧ t.stim = s.stim.drop x.toNat ∧ Q t := by
  obtain ⟨n, hn⟩ : ∃ n, x.toNat = n + 1 := Nat.exists_eq_succ_of_ne_zero fun h0 => hx (by bv_omega)
  rw [hn] at hexp ⊢
  have hrun := runCycles_of_expects (P := fun k t => P (x - BitVec.ofNat 32 k) t)
    (hexp.mono n.le_succ) (by simpa using hinit) fun k t hk hin ht => by
      have hleft : (x - BitVec.ofNat 32 k).toNat = x.toNat - k := toNat_sub_ofNat (by omega)
      rw [← sub_ofNat_sub_ofNat x k 1]
      exact hcount _ t (by bv_omega) hin ht
  refine ⟨fun k hk => ?_, ?_⟩
  · obtain ⟨t, hst, -, ht⟩ := hrun k (Nat.lt_succ_iff.mp hk)
    exact ⟨t, hst, ht⟩
  · obtain ⟨t, hst, hstim, ht⟩ := hrun n le_rfl
    have hleft : (x - BitVec.ofNat 32 n).toNat = x.toNat - n := toNat_sub_ofNat (by omega)
    have hone : x - BitVec.ofNat 32 n = 1#32 := by bv_omega
    obtain ⟨u, htu, hu⟩ := hlast t (hexp.inputs_drop n.lt_succ_self hstim) (hone ▸ ht)
    refine ⟨u, runCycles_trans hst (runCycles_one htu), ?_, hu⟩
    rw [step_next_stim htu, hstim, List.tail_drop]

/-! ### The actuator in a tick without a transaction -/

section

variable {s : State}

theorem State.actNext_of_tickCycle (h : TickCycle s.inputs) :
    s.actNext = tickAct s s.cur.act := by
  have hw := State.written_of_tickCycle h
  obtain ⟨a, hnext, hcases⟩ := s.actNext_cases
  rw [hnext, State.clearsCtrl, hw]
  rcases hcases with ⟨haccepts, -⟩ | ⟨-, -, rfl⟩ | ⟨-, hno, -⟩
  · have hnot : s.accepts = false := State.accepts_eq_false (.inr (by simp [hw]))
    exact absurd (hnot.symm.trans haccepts) (by decide)
  · rfl
  · exact absurd (h.2.1.symm.trans hno) (by decide)

/-- Without a transaction no flag is cleared (R224). -/
theorem State.nextBlock_flag_of_tickCycle (h : TickCycle s.inputs) (e : Event) :
    s.nextBlock.flag e = true ↔ s.Causes e ∨ s.cur.flag e = true := by
  have hack : ¬s.Acknowledges e := by simp [State.Acknowledges, State.written_of_tickCycle h]
  rw [s.nextBlock_flag_iff, and_iff_left hack]

end

/-! ### A strike (R187 to R193, R305) -/

/-- A pulse in a direction, `true` for LOCK, with `x` ticks left, no fault seen and no relock armed. -/
def Actuator.pulsing (dir locked : Bool) (x : Word) : Actuator :=
  { locked := locked, pActive := true, pDir := dir, pRem := x, pFault := false, rArmed := false,
    rRem := 0#32 }

/-- A pulse in a direction has completed without a fault in strike mode: after an UNLOCK the relock is
armed, with `x` ticks left (R189, R191). -/
def Actuator.settled (dir : Bool) (x : Word) : Actuator :=
  { locked := dir, pActive := false, pDir := dir, pRem := 0#32, pFault := false, rArmed := !dir,
    rRem := x }

/-- The block is in strike mode with the durations of `b`, and its actuator is at `a`. -/
structure State.Strikes (t : State) (b : Block) (a : Actuator) : Prop where
  mode : t.cur.autoRelock = true
  pulse : t.cur.pulse = b.pulse
  relock : t.cur.relock = b.relock
  act : t.cur.act = a

namespace State.Strikes

variable {t : State} {b : Block} {a : Actuator}

theorem nextState (h : t.Strikes b a) (hctrl : t.written 1#6 = none)
    (hpulse : t.written 6#6 = none) (hrelock : t.written 7#6 = none) :
    t.nextState.Strikes b t.actNext where
  mode := by
    have hkeep : t.nextBlock.ctrl = t.cur.ctrl := by simp [State.nextBlock, State.ctrlNext, hctrl]
    exact (congrArg (·.getLsbD 1) hkeep).trans h.mode
  pulse := by
    change (t.written 6#6).getD t.cur.pulse = _
    rw [hpulse]
    exact h.pulse
  relock := by
    change (t.written 7#6).getD t.cur.relock = _
    rw [hrelock]
    exact h.relock
  act := rfl

/-- The cycle that writes UNLOCK starts the pulse and cancels a pending relock (R184, R194). -/
theorem step_unlock (h : t.Strikes b a) (hr : t.inputs.rst = false)
    (hbus : t.inputs.bus = [.txn (writeWord 4#6 2#32)]) (hp : a.pActive = false) :
    ∃ u, step t = .next u ∧ u.Strikes b (.pulsing false a.locked (atLeastOne b.pulse)) := by
  have hw := State.written_of_write hbus
  have hstart : t.actNext = .pulsing false a.locked (atLeastOne b.pulse) := by
    rw [State.actNext_of_dir (dir := false) (by rwa [h.act]) (hw 4#6), h.act, h.pulse]
    rfl
  refine ⟨t.nextState, step_of_accepted hr (.inr (.inl ⟨_, hbus⟩)), ?_⟩
  rw [← hstart]
  exact h.nextState (hw 1#6) (hw 6#6) (hw 7#6)

/-- A tick without a transaction runs the actuator's tick and clears no flag. -/
theorem step_tick (h : t.Strikes b a) (hin : TickCycle t.inputs) :
    ∃ u, step t = .next u ∧ u.Strikes b (tickAct t a) ∧
      (t.Causes .lockDone ∨ t.cur.flag .lockDone = true → u.cur.flag .lockDone = true) := by
  have hw := State.written_of_tickCycle hin
  refine ⟨t.nextState, step_of_tickCycle hin, ?_, (t.nextBlock_flag_of_tickCycle hin _).mpr⟩
  rw [← h.act, ← State.actNext_of_tickCycle hin]
  exact h.nextState (hw 1#6) (hw 6#6) (hw 7#6)

variable {dir locked : Bool} {x : Word}

/-- A tick before the pulse's last (R187). -/
theorem step_pulse (h : t.Strikes b (.pulsing dir locked x)) (hin : QuietCycle t.inputs)
    (hx : x ≠ 1#32) :
    ∃ u, step t = .next u ∧ u.Strikes b (.pulsing dir locked (x - 1#32)) := by
  obtain ⟨u, hstep, hu, -⟩ := h.step_tick hin.1
  have hfault : t.pulseFault = false := by rw [State.pulseFault, h.act, hin.2]; rfl
  rw [tickAct_of_pulse_running (by rw [h.act]; rfl) (by rwa [h.act]), hfault, h.act] at hu
  exact ⟨u, hstep, hu⟩

/-- The pulse's last tick completes it, and after an UNLOCK arms the relock (R189, R191). -/
theorem step_pulse_last (h : t.Strikes b (.pulsing dir locked 1#32)) (hin : QuietCycle t.inputs) :
    ∃ u, step t = .next u ∧
      u.Strikes b (.settled dir (if dir then 0#32 else atLeastOne b.relock)) ∧
      u.cur.flag .lockDone = true := by
  obtain ⟨u, hstep, hu, hdone⟩ := h.step_tick hin.1
  have hp : t.cur.act.pActive = true := by rw [h.act]; rfl
  have hr : t.cur.act.pRem = 1#32 := by rw [h.act]; rfl
  have hfault : t.pulseFault = false := by rw [State.pulseFault, h.act, hin.2]; rfl
  have hafter : t.lockedAfter = dir := by rw [State.lockedAfter, hfault, h.act]; rfl
  have hcause : t.Causes .lockDone :=
    ⟨⟨hin.1.2.1, hp, hr⟩, mt t.pulseFault_iff.mpr (Bool.eq_false_iff.mp hfault)⟩
  rw [tickAct_of_pulse_last hp hr, hafter, h.mode, h.relock] at hu
  refine ⟨u, hstep, ?_, hdone (.inl hcause)⟩
  cases dir <;> exact hu

/-- A tick of the grace period before its last (R192). -/
theorem step_grace (h : t.Strikes b (.settled false x)) (hin : QuietCycle t.inputs)
    (hx : x ≠ 1#32) (hdone : t.cur.flag .lockDone = true) :
    ∃ u, step t = .next u ∧ u.Strikes b (.settled false (x - 1#32)) ∧
      u.cur.flag .lockDone = true := by
  obtain ⟨u, hstep, hu, hkept⟩ := h.step_tick hin.1
  rw [tickAct_of_relock (by rw [h.act]; rfl) (by rw [h.act]; rfl), if_neg (by rwa [h.act]),
    h.act] at hu
  exact ⟨u, hstep, hu, hkept (.inr hdone)⟩

/-- The last tick of the grace period starts the relock's pulse (R192). -/
theorem step_grace_last (h : t.Strikes b (.settled false 1#32)) (hin : QuietCycle t.inputs) :
    ∃ u, step t = .next u ∧ u.Strikes b (.pulsing true false (atLeastOne b.pulse)) := by
  obtain ⟨u, hstep, hu, -⟩ := h.step_tick hin.1
  rw [tickAct_of_relock (by rw [h.act]; rfl) (by rw [h.act]; rfl), if_pos (by rw [h.act]; rfl),
    h.act, h.pulse] at hu
  exact ⟨u, hstep, hu⟩

/-- A whole pulse, from its first tick to its completion (R187, R189). -/
theorem run_pulse (h : t.Strikes b (.pulsing dir locked (atLeastOne b.pulse)))
    (hexp : t.Expects (ticksOf b.pulse) QuietCycle) :
    (∀ k < ticksOf b.pulse, ∃ u, runCycles k t = .next u ∧
      ∃ y, u.Strikes b (.pulsing dir locked y)) ∧
    ∃ u, runCycles (ticksOf b.pulse) t = .next u ∧ u.stim = t.stim.drop (ticksOf b.pulse) ∧
      u.Strikes b (.settled dir (if dir then 0#32 else atLeastOne b.relock)) ∧
      u.cur.flag .lockDone = true := by
  rw [ticksOf_eq] at hexp ⊢
  obtain ⟨hduring, hend⟩ := runCycles_countdown
    (P := fun y u => u.Strikes b (.pulsing dir locked y)) hexp h (atLeastOne_ne_zero _)
    (fun _ _ hy hin hu => hu.step_pulse hin hy) (fun _ hin hu => hu.step_pulse_last hin)
  refine ⟨fun k hk => ?_, hend⟩
  obtain ⟨u, hrun, hu⟩ := hduring k hk
  exact ⟨u, hrun, _, hu⟩

/-- A whole grace period, from the completion of the UNLOCK to the relock's pulse (R191, R192). -/
theorem run_grace (h : t.Strikes b (.settled false (atLeastOne b.relock)))
    (hdone : t.cur.flag .lockDone = true) (hexp : t.Expects (ticksOf b.relock) QuietCycle) :
    (∀ k < ticksOf b.relock, ∃ u, runCycles k t = .next u ∧
      (∃ y, y.toNat = ticksOf b.relock - k ∧ u.Strikes b (.settled false y)) ∧
      u.cur.flag .lockDone = true) ∧
    ∃ u, runCycles (ticksOf b.relock) t = .next u ∧ u.stim = t.stim.drop (ticksOf b.relock) ∧
      u.Strikes b (.pulsing true false (atLeastOne b.pulse)) := by
  rw [ticksOf_eq] at hexp ⊢
  obtain ⟨hduring, hend⟩ := runCycles_countdown
    (P := fun y u => u.Strikes b (.settled false y) ∧ u.cur.flag .lockDone = true)
    hexp ⟨h, hdone⟩ (atLeastOne_ne_zero _)
    (fun _ _ hy hin hu => hu.1.step_grace hin hy hu.2) (fun _ hin hu => hu.1.step_grace_last hin)
  refine ⟨fun k hk => ?_, hend⟩
  obtain ⟨u, hrun, hu, hflag⟩ := hduring k hk
  exact ⟨u, hrun, ⟨_, toNat_sub_ofNat hk.le, hu⟩, hflag⟩

end State.Strikes

end Sys2Proof.Machine

namespace Sys2Proof.Proofs

open Sys2Proof.Machine

/-- Settles O56: the pulse of the UNLOCK, the grace period and the relock's pulse are three countdowns, one
run after another. -/
theorem pulseAndRelockTiming : Obligations.PulseAndRelockTiming := by
  intro s p ps hstim hrst hbus hidle hmode P Q hlen hquiet
  have hin := State.inputs_of_stim hstim
  have hs : s.Strikes s.cur s.cur.act := ⟨hmode, rfl, rfl, rfl⟩
  obtain ⟨s₁, hstart, h₁⟩ := hs.step_unlock (by rwa [hin]) (by rwa [hin]) hidle
  have hstim₁ : s₁.stim = ps := by rw [step_next_stim hstart, hstim, List.tail_cons]
  have hexp₁ : s₁.Expects (P + (Q + P)) QuietCycle := by
    rw [State.Expects, hstim₁, show P + (Q + P) = 2 * P + Q by omega]
    exact ⟨hlen, hquiet⟩
  obtain ⟨hunlocking, s₂, hrun₂, hstim₂, h₂, hdone⟩ := h₁.run_pulse (hexp₁.mono (by omega))
  have hexp₂ := hexp₁.drop hstim₂
  obtain ⟨hgrace, s₃, hrun₃, hstim₃, h₃⟩ := h₂.run_grace hdone (hexp₂.mono (by omega))
  obtain ⟨hlocking, s₄, hrun₄, -, h₄, hrelocked⟩ := h₃.run_pulse (hexp₂.drop hstim₃)
  have hto₁ : runCycles 1 s = .next s₁ := runCycles_one hstart
  have hto₂ := runCycles_trans hto₁ hrun₂
  have hto₃ := runCycles_trans hto₂ hrun₃
  refine ⟨fun k hk => ?unlocking, fun k hk => ?grace, fun k hk => ?locking,
    s₄, runCycles_trans hto₃ hrun₄, ?relocked⟩
  case unlocking =>
    obtain ⟨t, hrun, y, ht⟩ := hunlocking k hk
    refine ⟨t, runCycles_trans hto₁ hrun, ?_⟩
    rw [Block.unlockOut, Block.lockOut, ht.act]
    exact ⟨rfl, rfl, rfl⟩
  case grace =>
    obtain ⟨t, hrun, ⟨y, hy, ht⟩, hflag⟩ := hgrace k hk
    refine ⟨t, runCycles_trans hto₂ hrun, ?_⟩
    rw [Block.unlockOut, Block.lockOut, ht.act]
    exact ⟨rfl, rfl, rfl, hflag, rfl, hy⟩
  case locking =>
    obtain ⟨t, hrun, y, ht⟩ := hlocking k hk
    refine ⟨t, runCycles_trans hto₃ hrun, ?_⟩
    rw [Block.unlockOut, Block.lockOut, ht.act]
    exact ⟨rfl, rfl, rfl, rfl⟩
  case relocked =>
    rw [h₄.act]
    exact ⟨rfl, hrelocked, rfl, rfl⟩

/-- Settles O8: a cycle with RST = 1 is the model's reset cycle, and its read data is by the request. -/
theorem resetCycle : Obligations.ResetCycle := by
  intro s hr
  refine ⟨_, step_reset hr, fun hbus => ?idle, fun w hbus => ?txn⟩
  case idle =>
    rw [hbus]
    rfl
  case txn =>
    rw [hbus]
    cases hd : txnDir w <;> simp [reqIsRead, hd]

end Sys2Proof.Proofs
